-- ==== Sys2Proof/Word.lean ====
section
/-! DEFINITION. The bit-vector types of the block (00_scope.md R6, R7). -/

namespace Sys2Proof

/-- A byte; bit 7 is the most significant one (R7, R30). -/
abbrev Byte := BitVec 8

/-- The 13-bit access word of 30_encoding.md R41. -/
abbrev AccessWord := BitVec 13

/-- A switch index `i = A & 0xF` (20_memory.md R27). -/
abbrev SwitchIndex := BitVec 4

/-- A phase pattern `[PH[0], PH[1], PH[2], PH[3]]`; bit `p` is `PH[p]` (10_state.md R9). -/
abbrev Phases := BitVec 4

end Sys2Proof
end

