-- ==== Sys2Proof/Config.lean ====
section
/-! DEFINITION. The fixed sizes and the OPEN parameters of 00_scope.md R6. An OPEN parameter is a constant without a
body: no proof can see its value, so whatever is proved holds for every value of it. -/

namespace Sys2Proof.Config

/-- What the host does after a fault (60_exceptions.md R108): `halt`, or `continue` (here `goOn`, since
`continue` is a word of Lean). -/
inductive FaultPolicy where
  | halt
  | goOn
deriving DecidableEq, Repr, Inhabited

/-- `N_PHASES` (R6). -/
def nPhases : Nat := 4

/-- `N_DRIVES` (R6). -/
def nDrives : Nat := 2

/-- `N_SWITCHES` (R6). -/
def nSwitches : Nat := 16

/-- `LATCH_WIDTH` (R6). -/
def latchWidth : Nat := 8

/-- `POS_MIN` (R6). -/
def posMin : Nat := 0

/-- `POS_MAX` (R6). -/
def posMax : Nat := 143

/-- `HEAD_INIT[d]` (R6, decided by the spec: D8, log entry 9). -/
def headInit : Fin 2 → Nat := fun _ => 0

/-- `FLOAT_BUS`, OPEN: one fixed byte (R6, R56; log entry 4). -/
opaque floatBus : Byte

/-- `SPIN_SENTINEL_1`, OPEN (R6, R55; log entry 5). -/
opaque spinSentinel1 : Byte

/-- How far `SPIN_SENTINEL_0` lies above `SPIN_SENTINEL_1`, less one, modulo 256. Free in 0..254, so that the pair of
sentinels is free among all pairs of different bytes (log entry 5). -/
opaque spinSentinelGap : Fin 255

/-- `SPIN_SENTINEL_0`, OPEN, different from `SPIN_SENTINEL_1` (R6, R55; log entry 5). -/
def spinSentinel0 : Byte := spinSentinel1 + BitVec.ofNat 8 (spinSentinelGap.val + 1)

/-- `FAULT_POLICY`, OPEN (R6, R108; log entry 6). -/
opaque faultPolicy : FaultPolicy

/-- `IO_BASE / 16`, OPEN (R6, R28; log entry 18). -/
opaque ioPage : Nat

/-- `IO_BASE`, OPEN, a multiple of 16 (R6, R28; log entry 18). -/
def ioBase : Int := 16 * (ioPage : Int)

end Sys2Proof.Config
end

