-- ==== Sys2Proof/Syntax.lean ====
section
/-! DEFINITION. The 32 access forms (30_encoding.md R45, opcode_table.json): a read form and a write form of each of the
16 switches. A write form carries the value the host supplied, as an integer (20_memory.md R29). -/

namespace Sys2Proof

/-- One access: `…R` is the read form, `…W v` the write form with the value `v` (R43, R45). -/
inductive Instr where
  /-- `PH0OFF.R`, index 0, read (R61). -/
  | ph0offR
  /-- `PH0OFF.W #$vv`, index 0, write (R61). -/
  | ph0offW (v : Nat)
  /-- `PH0ON.R`, index 1, read (R62). -/
  | ph0onR
  /-- `PH0ON.W #$vv`, index 1, write (R62). -/
  | ph0onW (v : Nat)
  /-- `PH1OFF.R`, index 2, read (R63). -/
  | ph1offR
  /-- `PH1OFF.W #$vv`, index 2, write (R63). -/
  | ph1offW (v : Nat)
  /-- `PH1ON.R`, index 3, read (R64). -/
  | ph1onR
  /-- `PH1ON.W #$vv`, index 3, write (R64). -/
  | ph1onW (v : Nat)
  /-- `PH2OFF.R`, index 4, read (R65). -/
  | ph2offR
  /-- `PH2OFF.W #$vv`, index 4, write (R65). -/
  | ph2offW (v : Nat)
  /-- `PH2ON.R`, index 5, read (R66). -/
  | ph2onR
  /-- `PH2ON.W #$vv`, index 5, write (R66). -/
  | ph2onW (v : Nat)
  /-- `PH3OFF.R`, index 6, read (R67). -/
  | ph3offR
  /-- `PH3OFF.W #$vv`, index 6, write (R67). -/
  | ph3offW (v : Nat)
  /-- `PH3ON.R`, index 7, read (R68). -/
  | ph3onR
  /-- `PH3ON.W #$vv`, index 7, write (R68). -/
  | ph3onW (v : Nat)
  /-- `MOTOROFF.R`, index 8, read (R85). -/
  | motoroffR
  /-- `MOTOROFF.W #$vv`, index 8, write (R85). -/
  | motoroffW (v : Nat)
  /-- `MOTORON.R`, index 9, read (R86). -/
  | motoronR
  /-- `MOTORON.W #$vv`, index 9, write (R86). -/
  | motoronW (v : Nat)
  /-- `DRV0SEL.R`, index 10, read (R87). -/
  | drv0selR
  /-- `DRV0SEL.W #$vv`, index 10, write (R87). -/
  | drv0selW (v : Nat)
  /-- `DRV1SEL.R`, index 11, read (R88). -/
  | drv1selR
  /-- `DRV1SEL.W #$vv`, index 11, write (R88). -/
  | drv1selW (v : Nat)
  /-- `LOADOFF.R`, index 12, read (R89). -/
  | loadoffR
  /-- `LOADOFF.W #$vv`, index 12, write (R89). -/
  | loadoffW (v : Nat)
  /-- `LOADON.R`, index 13, read (R90). -/
  | loadonR
  /-- `LOADON.W #$vv`, index 13, write (R91). -/
  | loadonW (v : Nat)
  /-- `WRITEOFF.R`, index 14, read (R92). -/
  | writeoffR
  /-- `WRITEOFF.W #$vv`, index 14, write (R92). -/
  | writeoffW (v : Nat)
  /-- `WRITEON.R`, index 15, read (R93). -/
  | writeonR
  /-- `WRITEON.W #$vv`, index 15, write (R93). -/
  | writeonW (v : Nat)
deriving DecidableEq, Repr

/-- The switch index of a form (R45). -/
def Instr.index : Instr → SwitchIndex
  | .ph0offR => 0x0#4
  | .ph0offW _ => 0x0#4
  | .ph0onR => 0x1#4
  | .ph0onW _ => 0x1#4
  | .ph1offR => 0x2#4
  | .ph1offW _ => 0x2#4
  | .ph1onR => 0x3#4
  | .ph1onW _ => 0x3#4
  | .ph2offR => 0x4#4
  | .ph2offW _ => 0x4#4
  | .ph2onR => 0x5#4
  | .ph2onW _ => 0x5#4
  | .ph3offR => 0x6#4
  | .ph3offW _ => 0x6#4
  | .ph3onR => 0x7#4
  | .ph3onW _ => 0x7#4
  | .motoroffR => 0x8#4
  | .motoroffW _ => 0x8#4
  | .motoronR => 0x9#4
  | .motoronW _ => 0x9#4
  | .drv0selR => 0xA#4
  | .drv0selW _ => 0xA#4
  | .drv1selR => 0xB#4
  | .drv1selW _ => 0xB#4
  | .loadoffR => 0xC#4
  | .loadoffW _ => 0xC#4
  | .loadonR => 0xD#4
  | .loadonW _ => 0xD#4
  | .writeoffR => 0xE#4
  | .writeoffW _ => 0xE#4
  | .writeonR => 0xF#4
  | .writeonW _ => 0xF#4

/-- The optional value `V` of an access: `none` for a read, `some v` for a write (R43). -/
def Instr.value : Instr → Option Nat
  | .ph0offR => none
  | .ph0offW v => some v
  | .ph0onR => none
  | .ph0onW v => some v
  | .ph1offR => none
  | .ph1offW v => some v
  | .ph1onR => none
  | .ph1onW v => some v
  | .ph2offR => none
  | .ph2offW v => some v
  | .ph2onR => none
  | .ph2onW v => some v
  | .ph3offR => none
  | .ph3offW v => some v
  | .ph3onR => none
  | .ph3onW v => some v
  | .motoroffR => none
  | .motoroffW v => some v
  | .motoronR => none
  | .motoronW v => some v
  | .drv0selR => none
  | .drv0selW v => some v
  | .drv1selR => none
  | .drv1selW v => some v
  | .loadoffR => none
  | .loadoffW v => some v
  | .loadonR => none
  | .loadonW v => some v
  | .writeoffR => none
  | .writeoffW v => some v
  | .writeonR => none
  | .writeonW v => some v

/-- The mnemonic of a form as opcode_table.json spells it (R49). -/
def Instr.mnemonic : Instr → String
  | .ph0offR => "PH0OFF.R"
  | .ph0offW _ => "PH0OFF.W"
  | .ph0onR => "PH0ON.R"
  | .ph0onW _ => "PH0ON.W"
  | .ph1offR => "PH1OFF.R"
  | .ph1offW _ => "PH1OFF.W"
  | .ph1onR => "PH1ON.R"
  | .ph1onW _ => "PH1ON.W"
  | .ph2offR => "PH2OFF.R"
  | .ph2offW _ => "PH2OFF.W"
  | .ph2onR => "PH2ON.R"
  | .ph2onW _ => "PH2ON.W"
  | .ph3offR => "PH3OFF.R"
  | .ph3offW _ => "PH3OFF.W"
  | .ph3onR => "PH3ON.R"
  | .ph3onW _ => "PH3ON.W"
  | .motoroffR => "MOTOROFF.R"
  | .motoroffW _ => "MOTOROFF.W"
  | .motoronR => "MOTORON.R"
  | .motoronW _ => "MOTORON.W"
  | .drv0selR => "DRV0SEL.R"
  | .drv0selW _ => "DRV0SEL.W"
  | .drv1selR => "DRV1SEL.R"
  | .drv1selW _ => "DRV1SEL.W"
  | .loadoffR => "LOADOFF.R"
  | .loadoffW _ => "LOADOFF.W"
  | .loadonR => "LOADON.R"
  | .loadonW _ => "LOADON.W"
  | .writeoffR => "WRITEOFF.R"
  | .writeoffW _ => "WRITEOFF.W"
  | .writeonR => "WRITEON.R"
  | .writeonW _ => "WRITEON.W"

/-- One hexadecimal digit. -/
def hexDigit (n : Nat) : Char := "0123456789ABCDEF".toList.getD (n % 16) '0'

/-- The two hexadecimal digits of a byte. -/
def hexByte (n : Nat) : String := String.ofList [hexDigit (n / 16), hexDigit n]

/-- Trace syntax (a) of R49: the mnemonic, followed by `#$vv` for a write. -/
def Instr.mnemonicForm (i : Instr) : String :=
  match i.value with
  | none => i.mnemonic
  | some v => i.mnemonic ++ " #$" ++ hexByte v

/-- Trace syntax (b) of R49: `RD $i` and `WR $i,#$vv`. -/
def Instr.addressForm (i : Instr) : String :=
  match i.value with
  | none => "RD $" ++ String.ofList [hexDigit i.index.toNat]
  | some v => "WR $" ++ String.ofList [hexDigit i.index.toNat] ++ ",#$" ++ hexByte v

end Sys2Proof
end

