-- ==== Sys2Proof/WellFormed.lean ====
section
/-! DEFINITION. Well-formed accesses. The one check: the bus is eight bits wide, so a written value outside 0..255 cannot
occur on it (20_memory.md R29). -/

namespace Sys2Proof

/-- A written value fits the byte-wide bus (R29, R44). -/
def Instr.wellFormed (i : Instr) : Bool :=
  match i.value with
  | none => true
  | some v => decide (v < 256)

/-- The check as a proposition. -/
abbrev Instr.WellFormed (i : Instr) : Prop := i.wellFormed = true

end Sys2Proof
end

