-- ==== Sys2Proof/Decode.lean ====
section
/-! DEFINITION. From access words and bus accesses to instructions, and back (30_encoding.md R41 to R48). -/

namespace Sys2Proof

/-- `zext_8(v)`: `v` as an 8-bit unsigned value, `v mod 256` (00_scope.md R7). -/
def zext8 (v : Nat) : Byte := BitVec.ofNat 8 v

/-- The switch index `i = A & 0xF` of a bus address: `A mod 16` with a non-negative result (20_memory.md R27). -/
def switchIndex (addr : Int) : SwitchIndex := BitVec.ofNat 4 (addr % 16).toNat

/-- Field `RW`, bit 12: 1 is a read (R41, R43). -/
def fieldRW (w : AccessWord) : Bool := w.getLsbD 12

/-- Field `A`, bits 11:8: the switch index (R41, R42). -/
def fieldA (w : AccessWord) : SwitchIndex := w.extractLsb' 8 4

/-- Field `D`, bits 7:0: the written byte (R41, R44). -/
def fieldD (w : AccessWord) : Byte := w.extractLsb' 0 8

/-- The access word with the fields given (R41). -/
def packWord (rw : Bool) (a : SwitchIndex) (d : Byte) : AccessWord := BitVec.ofBool rw ++ a ++ d

/-- The instruction of an access word. Bits 12:8 (`RW` and `A`) choose the row of opcode_table.json; the decoder is total and
has no invalid verdict (R48). `D` is ignored on a read (R41, R44). -/
def decodeWord (w : AccessWord) : Instr :=
  match w.getLsbD 12, w.getLsbD 11, w.getLsbD 10, w.getLsbD 9, w.getLsbD 8 with
  | true, false, false, false, false => .ph0offR
  | true, false, false, false, true => .ph0onR
  | true, false, false, true, false => .ph1offR
  | true, false, false, true, true => .ph1onR
  | true, false, true, false, false => .ph2offR
  | true, false, true, false, true => .ph2onR
  | true, false, true, true, false => .ph3offR
  | true, false, true, true, true => .ph3onR
  | true, true, false, false, false => .motoroffR
  | true, true, false, false, true => .motoronR
  | true, true, false, true, false => .drv0selR
  | true, true, false, true, true => .drv1selR
  | true, true, true, false, false => .loadoffR
  | true, true, true, false, true => .loadonR
  | true, true, true, true, false => .writeoffR
  | true, true, true, true, true => .writeonR
  | false, false, false, false, false => .ph0offW (fieldD w).toNat
  | false, false, false, false, true => .ph0onW (fieldD w).toNat
  | false, false, false, true, false => .ph1offW (fieldD w).toNat
  | false, false, false, true, true => .ph1onW (fieldD w).toNat
  | false, false, true, false, false => .ph2offW (fieldD w).toNat
  | false, false, true, false, true => .ph2onW (fieldD w).toNat
  | false, false, true, true, false => .ph3offW (fieldD w).toNat
  | false, false, true, true, true => .ph3onW (fieldD w).toNat
  | false, true, false, false, false => .motoroffW (fieldD w).toNat
  | false, true, false, false, true => .motoronW (fieldD w).toNat
  | false, true, false, true, false => .drv0selW (fieldD w).toNat
  | false, true, false, true, true => .drv1selW (fieldD w).toNat
  | false, true, true, false, false => .loadoffW (fieldD w).toNat
  | false, true, true, false, true => .loadonW (fieldD w).toNat
  | false, true, true, true, false => .writeoffW (fieldD w).toNat
  | false, true, true, true, true => .writeonW (fieldD w).toNat

/-- Why a number is refused by the decoder: an access word has 13 bits (R41); a number with a bit above bit 12 is no access
word (log entry 16). -/
inductive DecodeError where
  | notAnAccessWord
deriving DecidableEq, Repr

/-- The instruction of a number: every number below 8192 is an access word and decodes (R41, R48). -/
def decode (n : Nat) : Except DecodeError Instr :=
  if n < 8192 then .ok (decodeWord (BitVec.ofNat 13 n)) else .error .notAnAccessWord

/-- The access word of a bus access: `RW` says whether a value was supplied, `A` is the low four address bits, `D` the value
on the byte-wide bus; a read has the canonical `D = 0` (R41, R42, R43, 20_memory.md R27, R29). -/
def busWord (addr : Int) (value : Option Nat) : AccessWord :=
  match value with
  | none => packWord true (switchIndex addr) 0#8
  | some v => packWord false (switchIndex addr) (zext8 v)

/-- The instruction of the bus access `Access(A, V)`. -/
def decodeAccess (addr : Int) (value : Option Nat) : Instr := decodeWord (busWord addr value)

/-- The instruction the decoder reads from a table word; bits above `nbits` are zero. -/
def decodeTableWord (nbits w : Nat) : Option Instr :=
  match decode (w % 2 ^ nbits) with
  | .ok i => some i
  | .error _ => none

/-- A read word: `0x1000 + 0x100 * i` (R41). -/
def readWord (a : SwitchIndex) : AccessWord := packWord true a 0#8

/-- A write word: `0x100 * i + v` (R41). -/
def writeWord (a : SwitchIndex) (v : Nat) : AccessWord := packWord false a (zext8 v)

/-- The canonical access word of a well-formed instruction (R41, opcode_table.json). -/
def encode : Instr → AccessWord
  | .ph0offR => readWord 0x0#4
  | .ph0offW v => writeWord 0x0#4 v
  | .ph0onR => readWord 0x1#4
  | .ph0onW v => writeWord 0x1#4 v
  | .ph1offR => readWord 0x2#4
  | .ph1offW v => writeWord 0x2#4 v
  | .ph1onR => readWord 0x3#4
  | .ph1onW v => writeWord 0x3#4 v
  | .ph2offR => readWord 0x4#4
  | .ph2offW v => writeWord 0x4#4 v
  | .ph2onR => readWord 0x5#4
  | .ph2onW v => writeWord 0x5#4 v
  | .ph3offR => readWord 0x6#4
  | .ph3offW v => writeWord 0x6#4 v
  | .ph3onR => readWord 0x7#4
  | .ph3onW v => writeWord 0x7#4 v
  | .motoroffR => readWord 0x8#4
  | .motoroffW v => writeWord 0x8#4 v
  | .motoronR => readWord 0x9#4
  | .motoronW v => writeWord 0x9#4 v
  | .drv0selR => readWord 0xA#4
  | .drv0selW v => writeWord 0xA#4 v
  | .drv1selR => readWord 0xB#4
  | .drv1selW v => writeWord 0xB#4 v
  | .loadoffR => readWord 0xC#4
  | .loadoffW v => writeWord 0xC#4 v
  | .loadonR => readWord 0xD#4
  | .loadonW v => writeWord 0xD#4 v
  | .writeoffR => readWord 0xE#4
  | .writeoffW v => writeWord 0xE#4 v
  | .writeonR => readWord 0xF#4
  | .writeonW v => writeWord 0xF#4 v

end Sys2Proof
end

