-- ==== Sys2Proof/Machine/State.lean ====
section
/-! DEFINITION. The state of the block (10_state.md R8), the interface it is driven through, and the state after reset. -/

namespace Sys2Proof.Machine

/-- The block's fault taxonomy as far as it is reported (60_exceptions.md R100). -/
inductive Fault where
  /-- More than two phases energized after a phase switch's write (R72, R101). Raised by the sixteen phase forms
  (`phaseSwitch`), on a read and on a write. The access that raises it does not end a run: it answers a next state, which
  is the state of R102, with this fault as its result (R4). So no step of this model answers `Outcome.fault`. Safe where
  FAULT_POLICY decides what follows; log entries 6, 7 and 13. -/
  | invalidMotorState
deriving DecidableEq, Repr

/-- Why there is no meaning. No encoding is reserved (30_encoding.md R48), so nothing else is refused. -/
inductive Refusal where
  /-- An instruction that has no meaning yet. Raised by `exec` alone; no arm raises it now. Safe. -/
  | notModelled (mnemonic : String)
deriving DecidableEq, Repr

/-- The fault's number on the `FAULT` line (60_exceptions.md R100, table). -/
def Fault.code : Fault → Nat
  | .invalidMotorState => 1

/-- The result of one access: a byte, or the fault (00_scope.md R4). -/
inductive AccessResult where
  | byte (b : Byte)
  | fault (f : Fault)
deriving DecidableEq, Repr

/-- The complete state of the block: the nine elements of R8 and nothing else. -/
structure Controller where
  /-- `PH[0..3]`, the Phase Register (R9). -/
  ph : Phases
  /-- `DL`, the data latch (R10). -/
  dl : Byte
  /-- `MOTOR` (R11). -/
  motor : Bool
  /-- `DRV`, the current drive (R12). -/
  drv : Fin 2
  /-- `WM`, write mode (R13). -/
  wm : Bool
  /-- `LM`, load mode (R14). -/
  lm : Bool
  /-- `SPIN`, the spin-sense toggle (R15). -/
  spin : Bool
  /-- `POS[0]`, quarter-tracks (R16). -/
  pos0 : Nat
  /-- `POS[1]`, quarter-tracks (R16). -/
  pos1 : Nat
deriving DecidableEq, Repr

/-- The write-protect sense inputs `WP[0]`, `WP[1]` (R18). -/
structure WpPins where
  wp0 : Bool
  wp1 : Bool
deriving DecidableEq, Repr

/-- One access as the host issues it, with the write-protect levels the environment supplies at that access
(00_scope.md R2, R3, R6). -/
structure BusCycle where
  addr  : Int
  value : Option Nat
  wp    : WpPins
deriving DecidableEq, Repr

/-- The block and its interface. -/
structure State where
  /-- The block's own state (R8). -/
  ctl    : Controller
  /-- The write-protect inputs at the access being run (R18; log entry 3). -/
  wp     : WpPins
  /-- The accesses issued and not yet run, oldest first (00_scope.md R3, 20_memory.md R35; log entry 1). -/
  bus    : List BusCycle
  /-- The outcome of the last access: the lines `DOUT` and `FAULT` (00_scope.md section 7; log entry 8). -/
  result : Option AccessResult
deriving DecidableEq, Repr

/-- The block at construction, its only reset (R23, R116, R117; `PH` and `POS` by the spec's decision D8, log entry 9). -/
def Controller.reset : Controller where
  ph := 0#4
  dl := 0#8
  motor := false
  drv := 0
  wm := false
  lm := false
  spin := false
  pos0 := Config.headInit 0
  pos1 := Config.headInit 1

/-- The state after reset: the block as constructed, no access issued, none completed (log entries 1, 3, 8). -/
def State.reset : State where
  ctl := Controller.reset
  wp := ⟨false, false⟩
  bus := []
  result := none

end Sys2Proof.Machine
end

