-- ==== Sys2Proof/Machine/Operands.lean ====
section
/-! DEFINITION. What an access's index and pins say: the phase number, the new flag value, the parity, the sense input of a
drive (30_encoding.md R46, R47; 10_state.md R18). The written value's form is `zext8` of Decode.lean. -/

namespace Sys2Proof.Machine

/-- The phase number of a phase switch, `p = i >> 1` (R46, 41_phase_switches.md R60). -/
def phaseNumber (i : SwitchIndex) : Nat := (i >>> 1).toNat

/-- The new value of the flag a switch writes, `i & 1` (R46, R47). -/
def switchValue (i : SwitchIndex) : Bool := i.getLsbD 0

/-- An even index (40_decoder_pipeline.md R54 to R56). -/
def evenIndex (i : SwitchIndex) : Bool := !i.getLsbD 0

/-- `WP[d]` (10_state.md R18). -/
def WpPins.level (p : WpPins) (d : Fin 2) : Bool := if d = 0 then p.wp0 else p.wp1

end Sys2Proof.Machine
end

