-- ==== Sys2Proof/Machine/Flags.lean ====
section
/-! DEFINITION. Computations on flags: the phase pattern's bits and the sensed latch bit (42_stepper_tracker.md section 5,
43_drive_latch_switches.md R90). -/

namespace Sys2Proof.Machine

/-- The pattern with only phase `p` energized. -/
def onlyPhase (p : Nat) : Phases := 1#4 <<< p

/-- `PH[p] <- on`: one flag written, the other three kept (10_state.md R9). -/
def setPhase (ph : Phases) (p : Nat) (on : Bool) : Phases :=
  if on then ph ||| onlyPhase p else ph &&& ~~~(onlyPhase p)

/-- The number of energized phases, 0 to 4 (00_scope.md R7). -/
def popcount (ph : Phases) : Nat :=
  (ph.getLsbD 0).toNat + (ph.getLsbD 1).toNat + (ph.getLsbD 2).toNat + (ph.getLsbD 3).toNat

/-- The number of the one energized phase (00_scope.md R7); used on patterns with exactly one. -/
def idx (ph : Phases) : Nat :=
  if ph.getLsbD 0 then 0 else if ph.getLsbD 1 then 1 else if ph.getLsbD 2 then 2 else 3

/-- The latch with bit 7 replaced by the sensed level: `(DL & 0x7F) | (WP << 7)` (R90). -/
def sensedLatch (dl : Byte) (level : Bool) : Byte :=
  (dl &&& 0x7F#8) ||| ((BitVec.ofBool level).zeroExtend 8 <<< 7)

/-- The byte a motor-off even read returns, chosen by the toggle's new value (40_decoder_pipeline.md R55). -/
def spinSentinel (spin : Bool) : Byte := if spin then Config.spinSentinel1 else Config.spinSentinel0

end Sys2Proof.Machine
end

