-- ==== Sys2Proof/Machine/Tracker.lean ====
section
/-! DEFINITION. The Track Position Tracker: `Resolve`, `Dir`, `clamp` (42_stepper_tracker.md). -/

namespace Sys2Proof.Machine

/-- What `Resolve` returns (R70): `Fault`, `NoMove`, or `Move dl` with `dl` being `+1` or `-1`. -/
inductive Motion where
  | fault
  | noMove
  | move (dl : Int)
deriving DecidableEq, Repr

/-- `Dir(a, b)`: up when `a >= b`, inverted when `abs(a - b) > 1` (R76). -/
def dir (a b : Nat) : Int :=
  let up := decide (b ≤ a)
  let up := if ((a : Int) - (b : Int)).natAbs > 1 then !up else up
  if up then 1 else -1

/-- One phase energized: compare the phase left on with the one that was on beside it (R74, R77). -/
def resolveOne (prev cur : Phases) : Motion :=
  let rest := prev &&& ~~~cur
  if popcount rest = 1 then .move (dir (idx cur) (idx rest)) else .noMove

/-- Two phases energized: compare the added phase with the one that was on alone (R75, R77). -/
def resolveTwo (prev cur : Phases) : Motion :=
  let rest := cur &&& ~~~prev
  if popcount prev = 1 then
    if popcount rest = 1 then .move (dir (idx rest) (idx prev)) else .noMove
  else .noMove

/-- `Resolve(prev, cur)`: the case is chosen by the number of energized phases in `cur` (R70, R71 to R73). -/
def resolve (prev cur : Phases) : Motion :=
  if popcount cur > 2 then .fault
  else if popcount cur = 0 then .noMove
  else if popcount cur = 1 then resolveOne prev cur
  else resolveTwo prev cur

/-- `clamp(x) = max(POS_MIN, min(POS_MAX, x))` (R78; the spec's decision D13, log entry 10). -/
def clamp (x : Int) : Nat := (max (Config.posMin : Int) (min (Config.posMax : Int) x)).toNat

end Sys2Proof.Machine
end

