-- ==== Sys2Proof/Machine/Ops.lean ====
section
/-! DEFINITION. The operations the switches are built from: the units' own operations, the three steps of an access
(40_decoder_pipeline.md R51), taking the fault (60_exceptions.md R102, R107, R108), and fetching the next access. -/

namespace Sys2Proof.Machine

/-! ### The units' own operations (43_drive_latch_switches.md section 5, 42_stepper_tracker.md R78) -/

/-- `setMotor(on)` (R94). -/
def Controller.setMotor (c : Controller) (on : Bool) : Controller := { c with motor := on }

/-- `selectDrive(index)`: ignored unless `index` is 0 or 1 (R95, R103). -/
def Controller.selectDrive (c : Controller) (index : Nat) : Controller :=
  if h : index < 2 then { c with drv := ⟨index, h⟩ } else c

/-- `readLatch()` (R97). -/
def Controller.readLatch (c : Controller) : Byte := c.dl

/-- `writeLatch(byte)`: the low eight bits are kept (R98). -/
def Controller.writeLatch (c : Controller) (v : Nat) : Controller := { c with dl := zext8 v }

/-- `LM <- on` (R89 to R91). -/
def Controller.setLoadMode (c : Controller) (on : Bool) : Controller := { c with lm := on }

/-- `WM <- on` (R92, R93). -/
def Controller.setWriteMode (c : Controller) (on : Bool) : Controller := { c with wm := on }

/-- `SPIN <- 1 - SPIN` (R55). -/
def Controller.toggleSpin (c : Controller) : Controller := { c with spin := !c.spin }

/-- `PH <- ph` (R60). -/
def Controller.setPh (c : Controller) (ph : Phases) : Controller := { c with ph := ph }

/-- `POS[d]` (10_state.md R16). -/
def Controller.pos (c : Controller) (d : Fin 2) : Nat := if d = 0 then c.pos0 else c.pos1

/-- `POS[d] <- x` (42_stepper_tracker.md R78). -/
def Controller.setPos (c : Controller) (d : Fin 2) (x : Nat) : Controller :=
  if d = 0 then { c with pos0 := x } else { c with pos1 := x }

/-- `POS[DRV] <- clamp(POS[DRV] + dl)` (R78, R79). -/
def Controller.moveHead (c : Controller) (dl : Int) : Controller :=
  c.setPos c.drv (clamp ((c.pos c.drv : Int) + dl))

/-- `isWriteProtected(index)`: the input's level, no side effect (R96). -/
def isWriteProtected (wp : WpPins) (d : Fin 2) : Bool := wp.level d

/-- The write-protect sense: with the motor on and not in write mode, bit 7 of the latch takes `WP[DRV]`; nothing else
takes part in it (R90, R99). -/
def Controller.senseWriteProtect (c : Controller) (wp : WpPins) : Controller :=
  if c.motor && !c.wm then c.writeLatch (sensedLatch c.dl (isWriteProtected wp c.drv)).toNat else c

/-! ### Step 1 of an access -/

/-- How step 1 ends: the block as the switch left it, and whether the fault was raised (R52, R57). -/
inductive Switched where
  | done (c : Controller)
  | raised (f : Fault) (c : Controller)
deriving DecidableEq, Repr

/-- `PhaseSwitch(i)`: write the flag, then run the tracker on the patterns before and after (41_phase_switches.md R60). The
write is kept when the fault is raised. -/
def phaseSwitch (i : SwitchIndex) (c : Controller) : Switched :=
  let cur := setPhase c.ph (phaseNumber i) (switchValue i)
  match resolve c.ph cur with
  | .fault => .raised .invalidMotorState (c.setPh cur)
  | .noMove => .done (c.setPh cur)
  | .move dl => .done ((c.setPh cur).moveHead dl)

/-! ### Steps 2 and 3 of an access -/

/-- Step 2, the global latch rule: a supplied value is loaded when motor, write mode and load mode are all on (R53). -/
def latchRule (v : Option Nat) (c : Controller) : Controller :=
  match v with
  | none => c
  | some x => if c.motor && c.wm && c.lm then c.writeLatch x else c

/-- Step 3, the state it leaves: a read of an even index with the motor off inverts `SPIN` (R55). -/
def returnState (i : SwitchIndex) (v : Option Nat) (c : Controller) : Controller :=
  if v.isNone && evenIndex i && !c.motor then c.toggleSpin else c

/-- Step 3, the byte, on the state step 3 leaves (R54, R55, R56). -/
def returnByte (i : SwitchIndex) (v : Option Nat) (c : Controller) : Byte :=
  if v.isNone && evenIndex i then
    if c.motor then c.readLatch else spinSentinel c.spin
  else Config.floatBus

/-- Steps 2 and 3 after step 1 left the block as `c`: the access completes with a byte (R51). -/
def State.complete (s : State) (i : SwitchIndex) (v : Option Nat) (c : Controller) : State :=
  let c' := returnState i v (latchRule v c)
  { s with ctl := c', result := some (.byte (returnByte i v c')) }

/-! ### Taking the fault

There is no saved register, no vector and no mode (R107): the block keeps the phase write of step 1 and nothing else of the
access, and the host gets the fault in place of a byte (R57, R102). There is no return operation (R108). -/

/-- What of the trace is left after a fault: all of it, or nothing, as the host's FAULT_POLICY says (R108). -/
def busAfterFault (bus : List BusCycle) : List BusCycle :=
  match Config.faultPolicy with
  | .halt => []
  | .goOn => bus

/-- The access ends with the outcome `Fault f`; `c` is the block with the phase write kept (R102, R108). -/
def State.takeFault (s : State) (f : Fault) (c : Controller) : State :=
  { s with ctl := c, result := some (.fault f), bus := busAfterFault s.bus }

/-! ### One access -/

/-- The three steps in order: the switch action, then, unless it raised the fault, the latch rule and the returned byte
(R51, R57). -/
def access (i : SwitchIndex) (v : Option Nat) (action : Controller → Switched) (s : State) :
    Host.Outcome State Fault Refusal :=
  match action s.ctl with
  | .done c => .next (s.complete i v c)
  | .raised f c => .next (s.takeFault f c)

/-! ### The queue of accesses -/

/-- The oldest access issued and not yet run, as an instruction, and the state it runs in: the access leaves the queue and
the write-protect inputs have the levels the environment supplies with it (00_scope.md R3, 20_memory.md R35). -/
def State.fetch (s : State) : Option (Instr × State) :=
  match s.bus with
  | [] => none
  | c :: rest => some (decodeAccess c.addr c.value, { s with bus := rest, wp := c.wp })

/-- No access is pending: the block does nothing (00_scope.md R3, 70_reset_and_hazards.md R132; log entry 2). -/
def State.idle (s : State) : State := s

/-- The bus cycle an access word stands for (R41, R43). -/
def cycleOfWord (w : AccessWord) (wp : WpPins) : BusCycle where
  addr := ((fieldA w).toNat : Int)
  value := if fieldRW w then none else some (fieldD w).toNat
  wp := wp

/-- A number placed as the next access to run; one that is no access word places nothing (log entries 1, 16). -/
def State.placeWord (s : State) (n : Nat) : State :=
  match decode n with
  | .ok _ => { s with bus := cycleOfWord (BitVec.ofNat 13 n) s.wp :: s.bus }
  | .error _ => s

/-- The host issues `Access(A, V)` after those it issued before (00_scope.md R2, 20_memory.md R35). -/
def State.issue (s : State) (addr : Int) (value : Option Nat) (wp : WpPins) : State :=
  { s with bus := s.bus ++ [⟨addr, value, wp⟩] }

/-- The host's `MemRead(IO_BASE + i, 1)` (00_scope.md R7). -/
def State.memRead (s : State) (i : SwitchIndex) (wp : WpPins) : State :=
  s.issue (Config.ioBase + (i.toNat : Int)) none wp

/-- The host's `MemWrite(IO_BASE + i, 1, v)` (00_scope.md R7). -/
def State.memWrite (s : State) (i : SwitchIndex) (v : Nat) (wp : WpPins) : State :=
  s.issue (Config.ioBase + (i.toNat : Int)) (some v) wp

end Sys2Proof.Machine
end

