-- ==== Sys2Proof/Machine/Diagnostics.lean ====
section
/-! DEFINITION. Derived values, the diagnostic read and the signal-level view (10_state.md R12, R17; 60_exceptions.md R114;
00_scope.md section 7). Each is a function of the state: reading changes nothing. -/

namespace Sys2Proof.Machine

/-- `selected[d] = (DRV == d)` (R12). -/
def Controller.selected (c : Controller) (d : Fin 2) : Bool := decide (c.drv = d)

/-- `trackNumber[d] = POS[d] div 4` (R17). -/
def Controller.trackNumber (c : Controller) (d : Fin 2) : Nat := c.pos d / 4

/-- `onWholeTrack[d] = (POS[d] mod 4 == 0)` (R17). -/
def Controller.onWholeTrack (c : Controller) (d : Fin 2) : Bool := decide (c.pos d % 4 = 0)

/-- What a diagnostic read may name: an element of R8 or a derived value of R12 and R17. -/
inductive DiagElement where
  | ph | dl | motor | drv | wm | lm | spin
  | pos (d : Fin 2) | selected (d : Fin 2) | trackNumber (d : Fin 2) | onWholeTrack (d : Fin 2)
deriving DecidableEq, Repr

/-- The current value of an element as a number (R114). -/
def diagnosticRead (e : DiagElement) (s : State) : Nat :=
  match e with
  | .ph => s.ctl.ph.toNat
  | .dl => s.ctl.dl.toNat
  | .motor => s.ctl.motor.toNat
  | .drv => s.ctl.drv.val
  | .wm => s.ctl.wm.toNat
  | .lm => s.ctl.lm.toNat
  | .spin => s.ctl.spin.toNat
  | .pos d => s.ctl.pos d
  | .selected d => (s.ctl.selected d).toNat
  | .trackNumber d => s.ctl.trackNumber d
  | .onWholeTrack d => (s.ctl.onWholeTrack d).toNat

/-- The line `FAULT`: asserted for an access that ended in the fault (00_scope.md section 7, 60_exceptions.md R101). -/
def State.faultLine (s : State) : Bool :=
  match s.result with
  | some (.fault _) => true
  | _ => false

/-- The lines `DOUT[7:0]`: the returned byte, where there is one (00_scope.md section 7). -/
def State.dout (s : State) : Option Byte :=
  match s.result with
  | some (.byte b) => some b
  | _ => none

end Sys2Proof.Machine
end

