-- ==== Sys2Proof/Machine/DriveSelect.lean ====
section
/-! DEFINITION. The drive-select switches, indices 10 and 11 (43_drive_latch_switches.md R87, R88). -/

namespace Sys2Proof.Machine

/-- `DRV0SEL.R` (R87). -/
def execDrv0selR (s : State) : Host.Outcome State Fault Refusal :=
  access 0xA#4 none (fun c => .done (c.selectDrive 0)) s

/-- `DRV0SEL.W #$vv` (R87). -/
def execDrv0selW (v : Nat) (s : State) : Host.Outcome State Fault Refusal :=
  access 0xA#4 (some v) (fun c => .done (c.selectDrive 0)) s

/-- `DRV1SEL.R` (R88). -/
def execDrv1selR (s : State) : Host.Outcome State Fault Refusal :=
  access 0xB#4 none (fun c => .done (c.selectDrive 1)) s

/-- `DRV1SEL.W #$vv` (R88). -/
def execDrv1selW (v : Nat) (s : State) : Host.Outcome State Fault Refusal :=
  access 0xB#4 (some v) (fun c => .done (c.selectDrive 1)) s

end Sys2Proof.Machine
end

