-- ==== Sys2Proof/Machine/LoadMode.lean ====
section
/-! DEFINITION. The load-mode switches, indices 12 and 13, with the write-protect sense on a read of index 13
(43_drive_latch_switches.md R89, R90, R91, R99). -/

namespace Sys2Proof.Machine

/-- `LOADOFF.R` (R89). -/
def execLoadoffR (s : State) : Host.Outcome State Fault Refusal :=
  access 0xC#4 none (fun c => .done (c.setLoadMode false)) s

/-- `LOADOFF.W #$vv` (R89). -/
def execLoadoffW (v : Nat) (s : State) : Host.Outcome State Fault Refusal :=
  access 0xC#4 (some v) (fun c => .done (c.setLoadMode false)) s

/-- `LOADON.R` (R90). -/
def execLoadonR (s : State) : Host.Outcome State Fault Refusal :=
  access 0xD#4 none (fun c => .done ((c.setLoadMode true).senseWriteProtect s.wp)) s

/-- `LOADON.W #$vv` (R91). -/
def execLoadonW (v : Nat) (s : State) : Host.Outcome State Fault Refusal :=
  access 0xD#4 (some v) (fun c => .done (c.setLoadMode true)) s

end Sys2Proof.Machine
end

