-- ==== Sys2Proof/Machine/Motor.lean ====
section
/-! DEFINITION. The motor switches, indices 8 and 9 (43_drive_latch_switches.md R85, R86). -/

namespace Sys2Proof.Machine

/-- `MOTOROFF.R` (R85). -/
def execMotoroffR (s : State) : Host.Outcome State Fault Refusal :=
  access 0x8#4 none (fun c => .done (c.setMotor false)) s

/-- `MOTOROFF.W #$vv` (R85). -/
def execMotoroffW (v : Nat) (s : State) : Host.Outcome State Fault Refusal :=
  access 0x8#4 (some v) (fun c => .done (c.setMotor false)) s

/-- `MOTORON.R` (R86). -/
def execMotoronR (s : State) : Host.Outcome State Fault Refusal :=
  access 0x9#4 none (fun c => .done (c.setMotor true)) s

/-- `MOTORON.W #$vv` (R86). -/
def execMotoronW (v : Nat) (s : State) : Host.Outcome State Fault Refusal :=
  access 0x9#4 (some v) (fun c => .done (c.setMotor true)) s

end Sys2Proof.Machine
end

