-- ==== Sys2Proof/Machine/Phase.lean ====
section
/-! DEFINITION. The eight phase switches, indices 0 to 7 (41_phase_switches.md R60 to R68). -/

namespace Sys2Proof.Machine

/-- `PH0OFF.R` (R61). -/
def execPh0offR (s : State) : Host.Outcome State Fault Refusal :=
  access 0x0#4 none (phaseSwitch 0x0#4) s

/-- `PH0OFF.W #$vv` (R61). -/
def execPh0offW (v : Nat) (s : State) : Host.Outcome State Fault Refusal :=
  access 0x0#4 (some v) (phaseSwitch 0x0#4) s

/-- `PH0ON.R` (R62). -/
def execPh0onR (s : State) : Host.Outcome State Fault Refusal :=
  access 0x1#4 none (phaseSwitch 0x1#4) s

/-- `PH0ON.W #$vv` (R62). -/
def execPh0onW (v : Nat) (s : State) : Host.Outcome State Fault Refusal :=
  access 0x1#4 (some v) (phaseSwitch 0x1#4) s

/-- `PH1OFF.R` (R63). -/
def execPh1offR (s : State) : Host.Outcome State Fault Refusal :=
  access 0x2#4 none (phaseSwitch 0x2#4) s

/-- `PH1OFF.W #$vv` (R63). -/
def execPh1offW (v : Nat) (s : State) : Host.Outcome State Fault Refusal :=
  access 0x2#4 (some v) (phaseSwitch 0x2#4) s

/-- `PH1ON.R` (R64). -/
def execPh1onR (s : State) : Host.Outcome State Fault Refusal :=
  access 0x3#4 none (phaseSwitch 0x3#4) s

/-- `PH1ON.W #$vv` (R64). -/
def execPh1onW (v : Nat) (s : State) : Host.Outcome State Fault Refusal :=
  access 0x3#4 (some v) (phaseSwitch 0x3#4) s

/-- `PH2OFF.R` (R65). -/
def execPh2offR (s : State) : Host.Outcome State Fault Refusal :=
  access 0x4#4 none (phaseSwitch 0x4#4) s

/-- `PH2OFF.W #$vv` (R65). -/
def execPh2offW (v : Nat) (s : State) : Host.Outcome State Fault Refusal :=
  access 0x4#4 (some v) (phaseSwitch 0x4#4) s

/-- `PH2ON.R` (R66). -/
def execPh2onR (s : State) : Host.Outcome State Fault Refusal :=
  access 0x5#4 none (phaseSwitch 0x5#4) s

/-- `PH2ON.W #$vv` (R66). -/
def execPh2onW (v : Nat) (s : State) : Host.Outcome State Fault Refusal :=
  access 0x5#4 (some v) (phaseSwitch 0x5#4) s

/-- `PH3OFF.R` (R67). -/
def execPh3offR (s : State) : Host.Outcome State Fault Refusal :=
  access 0x6#4 none (phaseSwitch 0x6#4) s

/-- `PH3OFF.W #$vv` (R67). -/
def execPh3offW (v : Nat) (s : State) : Host.Outcome State Fault Refusal :=
  access 0x6#4 (some v) (phaseSwitch 0x6#4) s

/-- `PH3ON.R` (R68). -/
def execPh3onR (s : State) : Host.Outcome State Fault Refusal :=
  access 0x7#4 none (phaseSwitch 0x7#4) s

/-- `PH3ON.W #$vv` (R68). -/
def execPh3onW (v : Nat) (s : State) : Host.Outcome State Fault Refusal :=
  access 0x7#4 (some v) (phaseSwitch 0x7#4) s

end Sys2Proof.Machine
end

