-- ==== Sys2Proof/Machine/WriteMode.lean ====
section
/-! DEFINITION. The write-mode switches, indices 14 and 15 (43_drive_latch_switches.md R92, R93). -/

namespace Sys2Proof.Machine

/-- `WRITEOFF.R` (R92). -/
def execWriteoffR (s : State) : Host.Outcome State Fault Refusal :=
  access 0xE#4 none (fun c => .done (c.setWriteMode false)) s

/-- `WRITEOFF.W #$vv` (R92). -/
def execWriteoffW (v : Nat) (s : State) : Host.Outcome State Fault Refusal :=
  access 0xE#4 (some v) (fun c => .done (c.setWriteMode false)) s

/-- `WRITEON.R` (R93). -/
def execWriteonR (s : State) : Host.Outcome State Fault Refusal :=
  access 0xF#4 none (fun c => .done (c.setWriteMode true)) s

/-- `WRITEON.W #$vv` (R93). -/
def execWriteonW (v : Nat) (s : State) : Host.Outcome State Fault Refusal :=
  access 0xF#4 (some v) (fun c => .done (c.setWriteMode true)) s

end Sys2Proof.Machine
end

