-- ==== Sys2Proof/Machine/Dispatch.lean ====
section
/-! DEFINITION. One arm per access form. -/

namespace Sys2Proof.Machine

def exec (i : Instr) (s : State) : Host.Outcome State Fault Refusal :=
  match i with
  | .ph0offR => Sys2Proof.Machine.execPh0offR s
  | .ph0offW v => Sys2Proof.Machine.execPh0offW v s
  | .ph0onR => Sys2Proof.Machine.execPh0onR s
  | .ph0onW v => Sys2Proof.Machine.execPh0onW v s
  | .ph1offR => Sys2Proof.Machine.execPh1offR s
  | .ph1offW v => Sys2Proof.Machine.execPh1offW v s
  | .ph1onR => Sys2Proof.Machine.execPh1onR s
  | .ph1onW v => Sys2Proof.Machine.execPh1onW v s
  | .ph2offR => Sys2Proof.Machine.execPh2offR s
  | .ph2offW v => Sys2Proof.Machine.execPh2offW v s
  | .ph2onR => Sys2Proof.Machine.execPh2onR s
  | .ph2onW v => Sys2Proof.Machine.execPh2onW v s
  | .ph3offR => Sys2Proof.Machine.execPh3offR s
  | .ph3offW v => Sys2Proof.Machine.execPh3offW v s
  | .ph3onR => Sys2Proof.Machine.execPh3onR s
  | .ph3onW v => Sys2Proof.Machine.execPh3onW v s
  | .motoroffR => Sys2Proof.Machine.execMotoroffR s
  | .motoroffW v => Sys2Proof.Machine.execMotoroffW v s
  | .motoronR => Sys2Proof.Machine.execMotoronR s
  | .motoronW v => Sys2Proof.Machine.execMotoronW v s
  | .drv0selR => Sys2Proof.Machine.execDrv0selR s
  | .drv0selW v => Sys2Proof.Machine.execDrv0selW v s
  | .drv1selR => Sys2Proof.Machine.execDrv1selR s
  | .drv1selW v => Sys2Proof.Machine.execDrv1selW v s
  | .loadoffR => Sys2Proof.Machine.execLoadoffR s
  | .loadoffW v => Sys2Proof.Machine.execLoadoffW v s
  | .loadonR => Sys2Proof.Machine.execLoadonR s
  | .loadonW v => Sys2Proof.Machine.execLoadonW v s
  | .writeoffR => Sys2Proof.Machine.execWriteoffR s
  | .writeoffW v => Sys2Proof.Machine.execWriteoffW v s
  | .writeonR => Sys2Proof.Machine.execWriteonR s
  | .writeonW v => Sys2Proof.Machine.execWriteonW v s

end Sys2Proof.Machine
end

