-- ==== Sys2Proof/Machine/Step.lean ====
section
/-! DEFINITION. One step: the oldest pending access, run in full (00_scope.md R2, R3). -/

namespace Sys2Proof.Machine

/-- One access of the block, or nothing when the host has issued none. -/
def step (s : State) : Host.Outcome State Fault Refusal :=
  match s.fetch with
  | none => .next s.idle
  | some (i, s') => exec i s'

/-- `s` with the access of a table word as the next one to run (log entry 1). -/
def State.withFetchWord (s : State) (nbits w : Nat) : State := s.placeWord (w % 2 ^ nbits)

end Sys2Proof.Machine
end

