-- ==== Sys2Proof/Safety.lean ====
section
/-! DEFINITION. The terms statements use: the invariant, the phase forms by number, the expected head position, and the
reference listing of one access (40_decoder_pipeline.md section 7). -/

namespace Sys2Proof.Machine

/-- Both heads lie in `POS_MIN..POS_MAX` (10_state.md R25). The other invariants of R25 (`DRV` 0 or 1, `DL` in 0..255) hold
by the types of the fields. -/
def Controller.HeadsInRange (c : Controller) : Prop :=
  c.pos0 ≤ Config.posMax ∧ c.pos1 ≤ Config.posMax

/-- The invariant of the machine (R25). -/
def State.Inv (s : State) : Prop := s.ctl.HeadsInRange

/-- The last access ended in the fault (R4, R101). -/
def State.Faulted (s : State) : Prop := s.result = some (.fault .invalidMotorState)

/-- `PHpOFF.R`. -/
def phaseOffRead : Fin 4 → Instr
  | 0 => .ph0offR
  | 1 => .ph1offR
  | 2 => .ph2offR
  | 3 => .ph3offR

/-- `PHpOFF.W`. -/
def phaseOffWrite (p : Fin 4) (v : Nat) : Instr :=
  match p with
  | 0 => .ph0offW v
  | 1 => .ph1offW v
  | 2 => .ph2offW v
  | 3 => .ph3offW v

/-- `PHpON.R`. -/
def phaseOnRead : Fin 4 → Instr
  | 0 => .ph0onR
  | 1 => .ph1onR
  | 2 => .ph2onR
  | 3 => .ph3onR

/-- `PHpON.W`. -/
def phaseOnWrite (p : Fin 4) (v : Nat) : Instr :=
  match p with
  | 0 => .ph0onW v
  | 1 => .ph1onW v
  | 2 => .ph2onW v
  | 3 => .ph3onW v

/-- Where a head at `x` stands after the tracker's answer (42_stepper_tracker.md R78). -/
def headAfter (m : Motion) (x : Nat) : Nat :=
  match m with
  | .move dl => clamp ((x : Int) + dl)
  | .noMove => x
  | .fault => x

/-- Step 1 of the reference listing for an index 8 to 15 (40_decoder_pipeline.md R52 and section 7). -/
def refSwitch (i : Nat) (V : Option Nat) (wp : WpPins) (c : Controller) : Controller :=
  if i = 8 then { c with motor := false }
  else if i = 9 then { c with motor := true }
  else if i = 10 then { c with drv := 0 }
  else if i = 11 then { c with drv := 1 }
  else if i = 12 then { c with lm := false }
  else if i = 13 then
    if V = none ∧ c.motor = true ∧ c.wm = false then
      { c with lm := true, dl := (c.dl &&& 0x7F#8) ||| (if (if c.drv = 0 then wp.wp0 else wp.wp1) = true then 0x80#8 else 0#8) }
    else { c with lm := true }
  else if i = 14 then { c with wm := false }
  else { c with wm := true }

/-- Step 1 of the reference listing: the block, and whether the fault was raised (section 7). -/
def refStepOne (i : Nat) (V : Option Nat) (wp : WpPins) (c : Controller) : Controller × Bool :=
  if i ≤ 7 then
    let p := i / 2
    let cur := if i % 2 = 1 then c.ph ||| (1#4 <<< p) else c.ph &&& ~~~(1#4 <<< p)
    let moved := { c with
      ph := cur
      pos0 := if c.drv = 0 then headAfter (resolve c.ph cur) c.pos0 else c.pos0
      pos1 := if c.drv = 0 then c.pos1 else headAfter (resolve c.ph cur) c.pos1 }
    (moved, decide (resolve c.ph cur = .fault))
  else (refSwitch i V wp c, false)

/-- `Access(A, V)` as the reference listing has it, in one piece (section 7). -/
def refAccess (A : Int) (V : Option Nat) (wp : WpPins) (c : Controller) : Controller × AccessResult :=
  let i := (A % 16).toNat
  let one := refStepOne i V wp c
  if one.2 then (one.1, .fault .invalidMotorState)
  else
    match V with
    | some v =>
      (if one.1.motor = true ∧ one.1.wm = true ∧ one.1.lm = true then { one.1 with dl := BitVec.ofNat 8 v } else one.1,
        .byte Config.floatBus)
    | none =>
      if i % 2 = 0 then
        if one.1.motor then (one.1, .byte one.1.dl)
        else ({ one.1 with spin := !one.1.spin },
          .byte (if !one.1.spin then Config.spinSentinel1 else Config.spinSentinel0))
      else (one.1, .byte Config.floatBus)

end Sys2Proof.Machine
end

