-- ==== Sys2Proof/Certificates/Slice0/Obligations.lean ====
section
/-! DEFINITION. The statements for the provers. Each docstring names the rule or the section of spec/ it formalises, and,
where it rests on a decision of the spec or a choice of the model, the log entry. -/

open Sys2Proof Sys2Proof.Machine


/-- Decoding the encoded word of any well-formed access gives the access back. For every well-formed access form i, with
every byte value of its operand, decode (encode i) is i. The access word is the spec's own carrier (decision D3, log
entry 16). (30_encoding.md sections 1, 2 and 3) -/
def Obligations.DecodeOfEncodeIsIdentity : Prop :=
  ∀ i : Instr, i.WellFormed → decode (encode i).toNat = .ok i

/-- Encoding the decoded access of any word gives the word, with D cleared on a read. For every 13-bit word the decoded
access is well-formed, and its canonical word is the word itself for a write and the word with bits 7:0 zero for a
read (decision D3, log entry 16). (30_encoding.md section 1) -/
def Obligations.EncodeOfDecodeIsCanonicalWord : Prop :=
  ∀ w : AccessWord, (decodeWord w).WellFormed ∧
    encode (decodeWord w) = if w.getLsbD 12 then w &&& 0x1F00#13 else w

/-- Every number below 8192 decodes to a well-formed access; a larger number is refused. All 8192 words decode
(30_encoding.md section 4); a number that does not fit in 13 bits is refused by name, which is the model's choice (log
entry 16). (30_encoding.md sections 1 and 4) -/
def Obligations.EveryAccessWordDecodesAndNothingElse : Prop :=
  ∀ n : Nat,
    (n < 8192 → ∃ i, decode n = .ok i ∧ i.WellFormed) ∧
    (8192 ≤ n → decode n = .error .notAnAccessWord)

/-- Words written out from the spec's encodings decode to the accesses they stand for. One word of each switch family,
read and write, taken from the rules' encoding lines. (30_encoding.md section 3, 41_phase_switches.md section 2,
43_drive_latch_switches.md sections 1 to 4) -/
def Obligations.WrittenOutWordsDecode : Prop :=
  decode 0x1000 = .ok .ph0offR ∧ decode 0x1300 = .ok .ph1onR ∧ decode 0x0722 = .ok (.ph3onW 0x22) ∧
    decode 0x1800 = .ok .motoroffR ∧ decode 0x0922 = .ok (.motoronW 0x22) ∧
    decode 0x1A00 = .ok .drv0selR ∧ decode 0x0B77 = .ok (.drv1selW 0x77) ∧
    decode 0x1D00 = .ok .loadonR ∧ decode 0x0DD5 = .ok (.loadonW 0xD5) ∧ decode 0x0C33 = .ok (.loadoffW 0x33) ∧
    decode 0x1E00 = .ok .writeoffR ∧ decode 0x0F66 = .ok (.writeonW 0x66)

/-- Field A and the low address bits give the index; RW and the presence of a value tell a read from a write. For every
word the index is field A unchanged and the value is none exactly when RW is 1, otherwise D. For every bus access the
index is the address modulo 16, a read is an access without a value, and a supplied byte is the value of the write.
(R42, R43) -/
def Obligations.WordAndBusFieldsGiveIndexAndValue : Prop :=
  (∀ w : AccessWord, (decodeWord w).index = w.extractLsb' 8 4 ∧
      (decodeWord w).value = if w.getLsbD 12 then none else some (w.extractLsb' 0 8).toNat) ∧
    (∀ (A : Int) (V : Option Nat), ((decodeAccess A V).index.toNat : Int) = A % 16 ∧
      ((decodeAccess A V).value = none ↔ V = none)) ∧
    (∀ (A : Int) (v : Nat), v < 256 → (decodeAccess A (some v)).value = some v)

/-- Two addresses with the same low four bits are the same operation, in every state. The index of a bus access is its
address modulo 16, and two accesses whose addresses agree modulo 16 decode alike and step alike from every state;
0x81, 0xC0E1 and 1 are one operation. (R27) -/
def Obligations.HighAddressBitsAreIgnored : Prop :=
  (∀ (A : Int) (V : Option Nat), ((decodeAccess A V).index.toNat : Int) = A % 16) ∧
    (∀ (A A' : Int) (V : Option Nat) (wp : WpPins) (rest : List BusCycle) (s : State), A % 16 = A' % 16 →
      decodeAccess A V = decodeAccess A' V ∧
      step { s with bus := ⟨A, V, wp⟩ :: rest } = step { s with bus := ⟨A', V, wp⟩ :: rest }) ∧
    (∀ V : Option Nat, decodeAccess 0x81 V = decodeAccess 1 V ∧ decodeAccess 0xC0E1 V = decodeAccess 1 V)

/-- IO_BASE is a multiple of 16, and IO_BASE + i selects switch i, whatever IO_BASE is. For the OPEN parameter IO_BASE
(decision D25, log entry 18): it is a multiple of 16 and an access at IO_BASE + i is an access to index i.
(20_memory.md section 1) -/
def Obligations.WindowBaseIsMultipleOfSixteen : Prop :=
  Config.ioBase % 16 = 0 ∧
    ∀ (i : SwitchIndex) (V : Option Nat), decodeAccess (Config.ioBase + (i.toNat : Int)) V = decodeAccess (i.toNat : Int) V ∧
      (decodeAccess (Config.ioBase + (i.toNat : Int)) V).index = i

/-- A written value wider than a byte acts as its low eight bits. For every write form and every value v, executing it
with v and with v mod 256 is the same, and the bus decoder hands on v mod 256 (zext_8; decision D18, log entry 17).
(20_memory.md section 2, 43_drive_latch_switches.md section 5) -/
def Obligations.WiderValuesAreReducedToAByte : Prop :=
  (∀ (A : Int) (v : Nat), decodeAccess A (some v) = decodeAccess A (some (v % 256)) ∧
      (decodeAccess A (some v)).value = some (v % 256)) ∧
    (∀ (i j : Instr) (s : State) (v : Nat), i.index = j.index → i.value = some v → j.value = some (v % 256) →
      exec i s = exec j s)

/-- A step runs the oldest pending access, with the write-protect levels supplied with it. When the queue is c followed by
rest, step is exec of the decoded access in the state with rest left and c's write-protect levels on the pins (log
entries 1 and 3). (00_scope.md section 2, 20_memory.md section 4) -/
def Obligations.StepRunsOldestPendingAccess : Prop :=
  ∀ (s : State) (c : BusCycle) (rest : List BusCycle), s.bus = c :: rest →
    step s = exec (decodeAccess c.addr c.value) { s with bus := rest, wp := c.wp }

/-- With no access pending a step changes nothing. The controller never acts on its own; the idle step is the model's way
to say so (log entry 2). (00_scope.md section 2, 70_reset_and_hazards.md section 4) -/
def Obligations.StepWithNoAccessPendingChangesNothing : Prop :=
  ∀ s : State, s.bus = [] → step s = .next s

/-- A table word placed with withFetchWord is the very next access a step runs, and the rest of the state is untouched.
For every access word w, the next step from s.withFetchWord 16 w is exec of the decoded instruction at s itself (log
entry 1). (30_encoding.md section 1) -/
def Obligations.PlacedWordIsTheNextAccessRun : Prop :=
  ∀ (s : State) (w : Nat), w < 8192 → ∃ i, decodeTableWord 16 w = some i ∧ step (s.withFetchWord 16 w) = exec i s

/-- Every step with an access pending is the reference listing of Access(A, V). For every state and pending access, step
answers a next state whose block and result are those of the reference listing (section 7; the listing is informative
and rests on the spec's decisions D10 to D14, D20, D22, D29, log entries 10 to 15 and 20), whose pins are the
access's, and whose queue is the rest, kept or emptied by FAULT_POLICY after a fault (log entry 6).
(40_decoder_pipeline.md section 7, 60_exceptions.md section 6) -/
def Obligations.StepMatchesReferenceListing : Prop :=
  ∀ (s : State) (c : BusCycle) (rest : List BusCycle), s.bus = c :: rest →
    step s = .next {
      ctl := (refAccess c.addr c.value c.wp s.ctl).1
      result := some (refAccess c.addr c.value c.wp s.ctl).2
      wp := c.wp
      bus := if (refAccess c.addr c.value c.wp s.ctl).2 = .fault .invalidMotorState then
          (if Config.faultPolicy = .halt then [] else rest)
        else rest }

/-- Every access completes, with a byte or with InvalidMotorState; there is no third outcome. In every state every form
answers a next state whose result is a byte or the fault InvalidMotorState; no form stops, waits or is refused. (R4) -/
def Obligations.EveryAccessEndsInByteOrFault : Prop :=
  ∀ (i : Instr) (s : State), ∃ t, exec i s = .next t ∧
    ((∃ b : Byte, t.result = some (.byte b)) ∨ t.result = some (.fault .invalidMotorState))

/-- An access faults exactly when it is a phase switch that leaves more than two phases energized. For every form and
state, the result is InvalidMotorState if and only if the index is 0 to 7 and more than two phases are energized after
the flag is written; forms 8 to 15 never fault. That the check runs on unchanged patterns too is the spec's decision
D29 (log entry 13). (60_exceptions.md section 2, 40_decoder_pipeline.md section 5) -/
def Obligations.OnlyPhaseSwitchesFaultAndOnlyAboveTwoPhases : Prop :=
  ∀ (i : Instr) (s : State), ∃ t, exec i s = .next t ∧
    (t.Faulted ↔ i.index.toNat < 8 ∧
      2 < popcount (setPhase s.ctl.ph (i.index.toNat / 2) (decide (i.index.toNat % 2 = 1))))

/-- The state after a fault: the phase write kept, all else as before, no byte, and the trace as FAULT_POLICY says. A
phase switch, read or write, that leaves more than two phases energized answers the state that differs from the one
before in PH, in the result and, under halt, in the rest of the trace, which ends (decisions D14, D16; log entries 6,
7 and 13). (60_exceptions.md sections 2 and 6, 40_decoder_pipeline.md section 5) -/
def Obligations.FaultKeepsThePhaseWriteAndNothingElse : Prop :=
  ∀ (i : Instr) (s : State), i.index.toNat < 8 →
    2 < popcount (setPhase s.ctl.ph (i.index.toNat / 2) (decide (i.index.toNat % 2 = 1))) →
    exec i s = .next { s with
      ctl := { s.ctl with ph := setPhase s.ctl.ph (i.index.toNat / 2) (decide (i.index.toNat % 2 = 1)) }
      result := some (.fault .invalidMotorState)
      bus := if Config.faultPolicy = .halt then [] else s.bus }

/-- An access does not depend on the result of earlier accesses: there is no sticky fault. Changing only the last result
changes nothing of what the next access does (decision D15, log entry 8). (60_exceptions.md section 6, 10_state.md
section 1) -/
def Obligations.NoRecordOfEarlierResults : Prop :=
  ∀ (i : Instr) (s : State) (r : Option AccessResult), exec i { s with result := r } = exec i s

/-- De-energizing from three phases to two does not fault and moves no head. From any pattern with three phases energized,
PHpOFF of an energized phase, read or write, completes with a byte, clears that phase alone, so that the two others
stay on, and moves no head (decision D11, log entry 11). (60_exceptions.md section 6, 42_stepper_tracker.md sections 2
and 4) -/
def Obligations.ThreeToTwoEndsTheFaultEpisode : Prop :=
  ∀ (p : Fin 4) (v : Nat) (i : Instr) (s : State), (i = phaseOffRead p ∨ i = phaseOffWrite p v) →
    popcount s.ctl.ph = 3 → s.ctl.ph.getLsbD p = true →
    ∃ t, exec i s = .next t ∧ (∃ b : Byte, t.result = some (.byte b)) ∧
      t.ctl.ph = s.ctl.ph &&& ~~~(1#4 <<< p.val) ∧ popcount t.ctl.ph = 2 ∧
      t.ctl.pos0 = s.ctl.pos0 ∧ t.ctl.pos1 = s.ctl.pos1

/-- Dir(a, b) has the twelve values of its table, and on adjacent phases up is one step of the cycle 0, 1, 2, 3, 0. The
twelve argument pairs, the law for adjacent phases, the values of opposite phases, and the formula. (R76) -/
def Obligations.DirectionFollowsTheFullTable : Prop :=
  (dir 0 1 = -1 ∧ dir 0 2 = 1 ∧ dir 0 3 = 1 ∧ dir 1 0 = 1 ∧ dir 1 2 = -1 ∧ dir 1 3 = 1 ∧
      dir 2 0 = -1 ∧ dir 2 1 = 1 ∧ dir 2 3 = -1 ∧ dir 3 0 = -1 ∧ dir 3 1 = -1 ∧ dir 3 2 = 1) ∧
    (∀ a b : Fin 4, (a.val = (b.val + 1) % 4 → dir a b = 1) ∧ (b.val = (a.val + 1) % 4 → dir a b = -1)) ∧
    (∀ a b : Fin 4, a ≠ b →
      dir a b = if (decide (b.val ≤ a.val) ^^ decide (1 < ((a.val : Int) - (b.val : Int)).natAbs)) then 1 else -1)

/-- Resolve with no phase, with one phase left on, and with one phase added. No phase energized: no motion. One phase f
energized, and the previous pattern without f being exactly the phase o: the move Dir(f, o). Two phases energized, the
previous pattern being exactly the phase b and the added phase a: the move Dir(a, b). (R73, R74, R75) -/
def Obligations.ResolveOnZeroOneAndTwoPhases : Prop :=
  (∀ prev : Phases, resolve prev 0#4 = .noMove) ∧
    (∀ (prev : Phases) (f o : Fin 4), f ≠ o → prev &&& ~~~(1#4 <<< f.val) = 1#4 <<< o.val →
      resolve prev (1#4 <<< f.val) = .move (dir f o)) ∧
    (∀ a b : Fin 4, a ≠ b →
      resolve (1#4 <<< b.val) ((1#4 <<< b.val) ||| (1#4 <<< a.val)) = .move (dir a b))

/-- Resolve returns NoMove when no single other phase exists, and Fault exactly above two phases. One phase on and the
rest of the previous pattern not exactly one phase: NoMove; two on and the previous pattern not one phase, or not
exactly one added: NoMove (decisions D10, D11, log entry 11); Fault exactly when more than two are on (D29, log entry
13). (42_stepper_tracker.md section 2) -/
def Obligations.ResolveWithoutASingleOtherPhaseMovesNothing : Prop :=
  ∀ prev cur : Phases,
    (resolve prev cur = .fault ↔ 2 < popcount cur) ∧
    (popcount cur = 1 → popcount (prev &&& ~~~cur) ≠ 1 → resolve prev cur = .noMove) ∧
    (popcount cur = 2 → popcount prev ≠ 1 ∨ popcount (cur &&& ~~~prev) ≠ 1 → resolve prev cur = .noMove)

/-- For indices 0 to 7, bits 2:1 of the index name the phase and bit 0 is its new value; the other flags stay. Every form
with index below 8 has bit 3 of its index 0 and answers a next state in which flag (i >> 1) is bit 0 of i and every
other flag is as before (the index structure is rule R46). That the write is kept when the access faults is the spec's
decision D14 (log entry 13). (30_encoding.md section 3, 41_phase_switches.md section 1, 40_decoder_pipeline.md section
5) -/
def Obligations.PhaseSwitchWritesItsFlagAlone : Prop :=
  ∀ (i : Instr) (s : State), i.index.toNat < 8 →
    i.index.getLsbD 3 = false ∧
    ∃ t, exec i s = .next t ∧ ∀ q : Fin 4,
      t.ctl.ph.getLsbD q = if q.val = (i.index >>> 1).toNat then i.index.getLsbD 0 else s.ctl.ph.getLsbD q

/-- PH0OFF to PH3OFF, read and write: whole next state when at most two phases remain energized. For every phase p, value
v and state in which at most two phases are energized after clearing p, the read and the write form answer exactly the
next state given: flag p cleared, the selected head moved as the tracker resolves, the latch rule and the returned
byte, all else (the other flags, the other head, MOTOR, DRV, WM, LM, the pins, the trace) unchanged. Rests on the
spec's decisions D10, D12, D13 (log entries 10, 11, 12). (41_phase_switches.md sections 1 and 2,
40_decoder_pipeline.md sections 3 and 4, 42_stepper_tracker.md section 3) -/
def Obligations.PhaseOffSwitchesCompleteWhenAtMostTwoRemain : Prop :=
  ∀ (p : Fin 4) (v : Nat) (s : State),
    popcount (s.ctl.ph &&& ~~~(1#4 <<< p.val)) ≤ 2 →
    exec (phaseOffRead p) s = .next { s with
      ctl := { s.ctl with
        ph := (s.ctl.ph &&& ~~~(1#4 <<< p.val))
        pos0 := if s.ctl.drv = 0 then headAfter (resolve s.ctl.ph (s.ctl.ph &&& ~~~(1#4 <<< p.val))) s.ctl.pos0 else s.ctl.pos0
        pos1 := if s.ctl.drv = 0 then s.ctl.pos1 else headAfter (resolve s.ctl.ph (s.ctl.ph &&& ~~~(1#4 <<< p.val))) s.ctl.pos1
        spin := if s.ctl.motor then s.ctl.spin else !s.ctl.spin }
      result := some (.byte (if s.ctl.motor then s.ctl.dl else spinSentinel (!s.ctl.spin))) } ∧
    exec (phaseOffWrite p v) s = .next { s with
      ctl := { s.ctl with
        ph := (s.ctl.ph &&& ~~~(1#4 <<< p.val))
        pos0 := if s.ctl.drv = 0 then headAfter (resolve s.ctl.ph (s.ctl.ph &&& ~~~(1#4 <<< p.val))) s.ctl.pos0 else s.ctl.pos0
        pos1 := if s.ctl.drv = 0 then s.ctl.pos1 else headAfter (resolve s.ctl.ph (s.ctl.ph &&& ~~~(1#4 <<< p.val))) s.ctl.pos1
        dl := if s.ctl.motor && s.ctl.wm && s.ctl.lm then BitVec.ofNat 8 v else s.ctl.dl }
      result := some (.byte Config.floatBus) }

/-- PH0ON to PH3ON, read and write: whole next state when at most two phases are then energized. For every phase p, value
v and state in which at most two phases are energized after setting p, the read and the write form answer exactly the
next state given: flag p set, the selected head moved as the tracker resolves, the latch rule, the byte FLOAT_BUS, all
else unchanged. Rests on the spec's decisions D10, D12, D13 (log entries 10, 11, 12). (41_phase_switches.md sections 1
and 2, 40_decoder_pipeline.md sections 3 and 4, 42_stepper_tracker.md section 3) -/
def Obligations.PhaseOnSwitchesCompleteWhenAtMostTwoAreOn : Prop :=
  ∀ (p : Fin 4) (v : Nat) (s : State),
    popcount (s.ctl.ph ||| (1#4 <<< p.val)) ≤ 2 →
    exec (phaseOnRead p) s = .next { s with
      ctl := { s.ctl with
        ph := (s.ctl.ph ||| (1#4 <<< p.val))
        pos0 := if s.ctl.drv = 0 then headAfter (resolve s.ctl.ph (s.ctl.ph ||| (1#4 <<< p.val))) s.ctl.pos0 else s.ctl.pos0
        pos1 := if s.ctl.drv = 0 then s.ctl.pos1 else headAfter (resolve s.ctl.ph (s.ctl.ph ||| (1#4 <<< p.val))) s.ctl.pos1
        spin := s.ctl.spin }
      result := some (.byte Config.floatBus) } ∧
    exec (phaseOnWrite p v) s = .next { s with
      ctl := { s.ctl with
        ph := (s.ctl.ph ||| (1#4 <<< p.val))
        pos0 := if s.ctl.drv = 0 then headAfter (resolve s.ctl.ph (s.ctl.ph ||| (1#4 <<< p.val))) s.ctl.pos0 else s.ctl.pos0
        pos1 := if s.ctl.drv = 0 then s.ctl.pos1 else headAfter (resolve s.ctl.ph (s.ctl.ph ||| (1#4 <<< p.val))) s.ctl.pos1
        dl := if s.ctl.motor && s.ctl.wm && s.ctl.lm then BitVec.ofNat 8 v else s.ctl.dl }
      result := some (.byte Config.floatBus) }

/-- PHpOFF faults exactly when the three other phases are on, PHpON exactly when two or three of them are. For every
phase, value and state, in terms of the pattern before the access (decision D29 for the redundant cases, log entry
13). (41_phase_switches.md section 4) -/
def Obligations.PhaseSwitchFaultConditionsBySwitch : Prop :=
  ∀ (p : Fin 4) (v : Nat) (s : State),
    (∀ i, (i = phaseOffRead p ∨ i = phaseOffWrite p v) → ∃ t, exec i s = .next t ∧
      (t.Faulted ↔ ∀ q : Fin 4, q ≠ p → s.ctl.ph.getLsbD q = true)) ∧
    (∀ i, (i = phaseOnRead p ∨ i = phaseOnWrite p v) → ∃ t, exec i s = .next t ∧
      (t.Faulted ↔ ∃ q r : Fin 4, q ≠ p ∧ r ≠ p ∧ q ≠ r ∧ s.ctl.ph.getLsbD q = true ∧ s.ctl.ph.getLsbD r = true))

/-- The head that moves is the selected drive's; selecting a drive moves none; the other head never moves. For every form
and state: the head of the drive not selected stays; a form with index 8 to 15, the drive selects among them, moves no
head; a phase switch with index 0 to 7 that does not fault compares the shared phase register before and after and
moves POS[DRV], by exactly the resolved step when it stands inside the range. (R79) -/
def Obligations.OnlyTheSelectedHeadMoves : Prop :=
  ∀ (i : Instr) (s : State), ∃ t, exec i s = .next t ∧
    (∀ d : Fin 2, d ≠ s.ctl.drv → t.ctl.pos d = s.ctl.pos d) ∧
    (8 ≤ i.index.toNat → ∀ d : Fin 2, t.ctl.pos d = s.ctl.pos d) ∧
    (i.index.toNat < 8 → resolve s.ctl.ph t.ctl.ph = .noMove → t.ctl.pos s.ctl.drv = s.ctl.pos s.ctl.drv) ∧
    (i.index.toNat < 8 → 0 < s.ctl.pos s.ctl.drv → s.ctl.pos s.ctl.drv < 143 →
      ∀ dl, resolve s.ctl.ph t.ctl.ph = .move dl → (t.ctl.pos s.ctl.drv : Int) = (s.ctl.pos s.ctl.drv : Int) + dl)

/-- A step down at 0 and a step up at 143 leave the position where it is. For every phase switch and state: at POS[DRV] =
0 a resolved move of -1 leaves 0, at 143 a move of +1 leaves 143. Saturation is the spec's decision D13 (log entry
10), not the source's. (42_stepper_tracker.md section 3, 70_reset_and_hazards.md section 3) -/
def Obligations.HeadSaturatesAtTheRangeEnds : Prop :=
  ∀ (i : Instr) (s : State), i.index.toNat < 8 → ∃ t, exec i s = .next t ∧
    (s.ctl.pos s.ctl.drv = 0 → resolve s.ctl.ph t.ctl.ph = .move (-1) → t.ctl.pos s.ctl.drv = 0) ∧
    (s.ctl.pos s.ctl.drv = 143 → resolve s.ctl.ph t.ctl.ph = .move 1 → t.ctl.pos s.ctl.drv = 143)

/-- Stepping with adjacent overlap: each half step forward moves the head up by one, each backward down by one. With phase
p alone on, energizing p+1 (mod 4) moves the selected head from x < 143 to x + 1; with p and p+1 on, de-energizing p
does so again; with p alone on, energizing p-1, and with p and p-1 on, de-energizing p, move it from x > 0 to x - 1.
Read and write forms alike. (42_stepper_tracker.md section 4, 95_test_vectors.md section 1) -/
def Obligations.OverlappedSteppingMovesOneQuarterTrack : Prop :=
  ∀ (p q : Fin 4) (v : Nat) (s : State), q.val = (p.val + 1) % 4 →
    (∀ i, (i = phaseOnRead q ∨ i = phaseOnWrite q v) → s.ctl.ph = 1#4 <<< p.val → s.ctl.pos s.ctl.drv < 143 →
      ∃ t, exec i s = .next t ∧ t.ctl.pos s.ctl.drv = s.ctl.pos s.ctl.drv + 1 ∧
        t.ctl.ph = (1#4 <<< p.val) ||| (1#4 <<< q.val)) ∧
    (∀ i, (i = phaseOffRead p ∨ i = phaseOffWrite p v) → s.ctl.ph = (1#4 <<< p.val) ||| (1#4 <<< q.val) →
      s.ctl.pos s.ctl.drv < 143 →
      ∃ t, exec i s = .next t ∧ t.ctl.pos s.ctl.drv = s.ctl.pos s.ctl.drv + 1 ∧ t.ctl.ph = 1#4 <<< q.val) ∧
    (∀ i, (i = phaseOnRead p ∨ i = phaseOnWrite p v) → s.ctl.ph = 1#4 <<< q.val → 0 < s.ctl.pos s.ctl.drv →
      s.ctl.pos s.ctl.drv ≤ 143 →
      ∃ t, exec i s = .next t ∧ t.ctl.pos s.ctl.drv + 1 = s.ctl.pos s.ctl.drv ∧
        t.ctl.ph = (1#4 <<< p.val) ||| (1#4 <<< q.val)) ∧
    (∀ i, (i = phaseOffRead q ∨ i = phaseOffWrite q v) → s.ctl.ph = (1#4 <<< p.val) ||| (1#4 <<< q.val) →
      0 < s.ctl.pos s.ctl.drv → s.ctl.pos s.ctl.drv ≤ 143 →
      ∃ t, exec i s = .next t ∧ t.ctl.pos s.ctl.drv + 1 = s.ctl.pos s.ctl.drv ∧ t.ctl.ph = 1#4 <<< p.val)

/-- The head moves only on the transitions one-to-two and two-to-one. If any access changes a head position, it was a
phase switch that took the pattern from one energized phase to two or from two to one, and the position changed by at
most one quarter-track where it lay in range (decisions D10, D11, log entry 11). (42_stepper_tracker.md section 4) -/
def Obligations.HeadMovesOnlyBetweenOneAndTwoPhases : Prop :=
  ∀ (i : Instr) (s : State), ∃ t, exec i s = .next t ∧
    (∀ d : Fin 2, t.ctl.pos d ≠ s.ctl.pos d → i.index.toNat < 8 ∧
      ((popcount s.ctl.ph = 1 ∧ popcount t.ctl.ph = 2) ∨ (popcount s.ctl.ph = 2 ∧ popcount t.ctl.ph = 1))) ∧
    (∀ d : Fin 2, s.ctl.pos d ≤ 143 → t.ctl.pos d ≤ s.ctl.pos d + 1 ∧ s.ctl.pos d ≤ t.ctl.pos d + 1)

/-- A phase switch that writes the value its flag holds keeps PH, moves no head, and faults only above two phases. For
every phase switch, read or write, whose flag already has the value written (decisions D10, D29; log entries 11 and
13). (41_phase_switches.md section 3) -/
def Obligations.RedundantPhaseSwitchMovesNothing : Prop :=
  ∀ (i : Instr) (s : State), i.index.toNat < 8 →
    s.ctl.ph.getLsbD (i.index.toNat / 2) = decide (i.index.toNat % 2 = 1) →
    ∃ t, exec i s = .next t ∧ t.ctl.ph = s.ctl.ph ∧ t.ctl.pos0 = s.ctl.pos0 ∧ t.ctl.pos1 = s.ctl.pos1 ∧
      (t.Faulted ↔ 2 < popcount s.ctl.ph)

/-- Phases and head positions after an access depend on the phases, the heads and the drive index alone. Two states that
agree on PH, POS and DRV, whatever their MOTOR, WM, LM, DL, SPIN, pins and traces, agree on PH, POS and DRV after the
same form, and fault alike (decision D21, log entry 14). (42_stepper_tracker.md section 3, 41_phase_switches.md
section 1) -/
def Obligations.TrackerIgnoresMotorModesLatchSpinAndPins : Prop :=
  ∀ (i : Instr) (s s' : State), s.ctl.ph = s'.ctl.ph → s.ctl.drv = s'.ctl.drv →
    s.ctl.pos0 = s'.ctl.pos0 → s.ctl.pos1 = s'.ctl.pos1 →
    ∃ t t', exec i s = .next t ∧ exec i s' = .next t' ∧ t.ctl.ph = t'.ctl.ph ∧ t.ctl.drv = t'.ctl.drv ∧
      t.ctl.pos0 = t'.ctl.pos0 ∧ t.ctl.pos1 = t'.ctl.pos1 ∧ (t.Faulted ↔ t'.Faulted)

/-- MOTOROFF: encoding and whole next state, read and write. The read clears MOTOR, inverts SPIN and returns the sentinel
of the new SPIN, never the latch; the write clears MOTOR, loads nothing and returns FLOAT_BUS; everything else is
unchanged. (R85) -/
def Obligations.MotorOffClearsTheMotorAndReturnsASentinel : Prop :=
  decode 0x1800 = .ok .motoroffR ∧ (∀ v, v < 256 → decode (0x0800 + v) = .ok (.motoroffW v)) ∧
    (∀ s : State, exec .motoroffR s = .next { s with
      ctl := { s.ctl with motor := false, spin := !s.ctl.spin }
      result := some (.byte (if !s.ctl.spin then Config.spinSentinel1 else Config.spinSentinel0)) }) ∧
    (∀ (v : Nat) (s : State), exec (.motoroffW v) s = .next { s with
      ctl := { s.ctl with motor := false }
      result := some (.byte Config.floatBus) })

/-- MOTORON: encoding and whole next state, read and write. The read sets MOTOR and returns FLOAT_BUS; the write also
loads the value when WM and LM are 1; SPIN is never touched; everything else is unchanged. (R86) -/
def Obligations.MotorOnSetsTheMotorAndMayLoadTheLatch : Prop :=
  decode 0x1900 = .ok .motoronR ∧ (∀ v, v < 256 → decode (0x0900 + v) = .ok (.motoronW v)) ∧
    (∀ s : State, exec .motoronR s = .next { s with
      ctl := { s.ctl with motor := true }
      result := some (.byte Config.floatBus) }) ∧
    (∀ (v : Nat) (s : State), exec (.motoronW v) s = .next { s with
      ctl := { s.ctl with motor := true, dl := if s.ctl.wm && s.ctl.lm then BitVec.ofNat 8 v else s.ctl.dl }
      result := some (.byte Config.floatBus) })

/-- DRV0SEL: encoding and whole next state, read and write. DRV becomes 0; a read returns the latch with the motor on and
a sentinel, with SPIN inverted, with it off; a write loads the value when MOTOR, WM and LM are all 1; no head moves
and everything else is unchanged. (R87) -/
def Obligations.DriveZeroSelect : Prop :=
  decode 0x1A00 = .ok .drv0selR ∧ (∀ v, v < 256 → decode (0x0A00 + v) = .ok (.drv0selW v)) ∧
    (∀ s : State, exec .drv0selR s = .next { s with
      ctl := { s.ctl with drv := 0, spin := if s.ctl.motor then s.ctl.spin else !s.ctl.spin }
      result := some (.byte (if s.ctl.motor then s.ctl.dl else spinSentinel (!s.ctl.spin))) }) ∧
    (∀ (v : Nat) (s : State), exec (.drv0selW v) s = .next { s with
      ctl := { s.ctl with drv := 0, dl := if s.ctl.motor && s.ctl.wm && s.ctl.lm then BitVec.ofNat 8 v else s.ctl.dl }
      result := some (.byte Config.floatBus) })

/-- DRV1SEL: encoding and whole next state, read and write; the sense then tests WP[1] and the tracker moves POS[1]. DRV
becomes 1; a read returns FLOAT_BUS; a write loads the value when MOTOR, WM and LM are all 1; everything else is
unchanged. With DRV = 1 the sense takes WP[1], no access changes POS[0], and the tracker moves POS[1]. (R88) -/
def Obligations.DriveOneSelect : Prop :=
  decode 0x1B00 = .ok .drv1selR ∧ (∀ v, v < 256 → decode (0x0B00 + v) = .ok (.drv1selW v)) ∧
    (∀ s : State, exec .drv1selR s = .next { s with
      ctl := { s.ctl with drv := 1 }
      result := some (.byte Config.floatBus) }) ∧
    (∀ (v : Nat) (s : State), exec (.drv1selW v) s = .next { s with
      ctl := { s.ctl with drv := 1, dl := if s.ctl.motor && s.ctl.wm && s.ctl.lm then BitVec.ofNat 8 v else s.ctl.dl }
      result := some (.byte Config.floatBus) }) ∧
    (∀ s : State, s.ctl.drv = 1 → s.ctl.motor = true → s.ctl.wm = false →
      ∃ t, exec .loadonR s = .next t ∧ t.ctl.dl.getLsbD 7 = s.wp.wp1) ∧
    (∀ (i : Instr) (s : State), s.ctl.drv = 1 → ∃ t, exec i s = .next t ∧ t.ctl.pos0 = s.ctl.pos0) ∧
    (∀ s : State, s.ctl.drv = 1 → s.ctl.ph = 1#4 → s.ctl.pos1 < 143 →
      ∃ t, exec .ph1onR s = .next t ∧ t.ctl.pos1 = s.ctl.pos1 + 1)

/-- LOADOFF: encoding and whole next state, read and write. LM becomes 0; a read returns the latch with the motor on and a
sentinel, with SPIN inverted, with it off; a write never changes DL; nothing else changes, and no disk byte enters the
latch. That the index clears LM is the spec's decision D20 (log entry 15). (43_drive_latch_switches.md section 3) -/
def Obligations.LoadOffClearsLoadModeAndFetchesNothing : Prop :=
  decode 0x1C00 = .ok .loadoffR ∧ (∀ v, v < 256 → decode (0x0C00 + v) = .ok (.loadoffW v)) ∧
    (∀ s : State, exec .loadoffR s = .next { s with
      ctl := { s.ctl with lm := false, spin := if s.ctl.motor then s.ctl.spin else !s.ctl.spin }
      result := some (.byte (if s.ctl.motor then s.ctl.dl else spinSentinel (!s.ctl.spin))) }) ∧
    (∀ (v : Nat) (s : State), exec (.loadoffW v) s = .next { s with
      ctl := { s.ctl with lm := false }
      result := some (.byte Config.floatBus) })

/-- LOADON.R: encoding, LM set, and bit 7 of the latch from WP[DRV] with the motor on and write mode off. LM becomes 1;
with MOTOR = 1 and WM = 0 bit 7 of DL becomes WP[DRV] and bits 6:0 stay; otherwise DL stays; FLOAT_BUS is returned;
everything else is unchanged. (R90) -/
def Obligations.LoadOnReadSensesWriteProtect : Prop :=
  decode 0x1D00 = .ok .loadonR ∧
    (∀ s : State, exec .loadonR s = .next { s with
      ctl := { s.ctl with
        lm := true
        dl := if s.ctl.motor && !s.ctl.wm then
            (s.ctl.dl &&& 0x7F#8) ||| (if (if s.ctl.drv = 0 then s.wp.wp0 else s.wp.wp1) = true then 0x80#8 else 0x00#8)
          else s.ctl.dl }
      result := some (.byte Config.floatBus) })

/-- LOADON.W: encoding and whole next state; no sense. LM becomes 1; DL becomes the value when MOTOR and WM are 1, else it
stays; FLOAT_BUS is returned; everything else is unchanged. (R91) -/
def Obligations.LoadOnWriteNeverSenses : Prop :=
  (∀ v, v < 256 → decode (0x0D00 + v) = .ok (.loadonW v)) ∧
    (∀ (v : Nat) (s : State), exec (.loadonW v) s = .next { s with
      ctl := { s.ctl with lm := true, dl := if s.ctl.motor && s.ctl.wm then BitVec.ofNat 8 v else s.ctl.dl }
      result := some (.byte Config.floatBus) })

/-- WRITEOFF: encoding and whole next state, read and write. WM becomes 0; a read returns the latch with the motor on and
a sentinel, with SPIN inverted, with it off; a write never loads the latch and returns FLOAT_BUS; everything else is
unchanged. (R92) -/
def Obligations.WriteOffClearsWriteMode : Prop :=
  decode 0x1E00 = .ok .writeoffR ∧ (∀ v, v < 256 → decode (0x0E00 + v) = .ok (.writeoffW v)) ∧
    (∀ s : State, exec .writeoffR s = .next { s with
      ctl := { s.ctl with wm := false, spin := if s.ctl.motor then s.ctl.spin else !s.ctl.spin }
      result := some (.byte (if s.ctl.motor then s.ctl.dl else spinSentinel (!s.ctl.spin))) }) ∧
    (∀ (v : Nat) (s : State), exec (.writeoffW v) s = .next { s with
      ctl := { s.ctl with wm := false }
      result := some (.byte Config.floatBus) })

/-- WRITEON: encoding and whole next state, read and write; write protect plays no part; the sense then no longer fires.
WM becomes 1 whatever WP is; a write loads the value when MOTOR and LM are 1; FLOAT_BUS is returned; everything else
is unchanged. With WM = 1 a LOADON.R leaves the latch. (R93) -/
def Obligations.WriteOnSetsWriteModeWhateverTheWriteProtect : Prop :=
  decode 0x1F00 = .ok .writeonR ∧ (∀ v, v < 256 → decode (0x0F00 + v) = .ok (.writeonW v)) ∧
    (∀ s : State, exec .writeonR s = .next { s with
      ctl := { s.ctl with wm := true }
      result := some (.byte Config.floatBus) }) ∧
    (∀ (v : Nat) (s : State), exec (.writeonW v) s = .next { s with
      ctl := { s.ctl with wm := true, dl := if s.ctl.motor && s.ctl.lm then BitVec.ofNat 8 v else s.ctl.dl }
      result := some (.byte Config.floatBus) }) ∧
    (∀ s : State, s.ctl.wm = true → ∃ t, exec .loadonR s = .next t ∧ t.ctl.dl = s.ctl.dl)

/-- selectDrive ignores an index outside 0 and 1; writeLatch keeps the low eight bits. selectDrive(n) sets DRV for n = 0,
1 and changes nothing otherwise, and the decoder calls it as selectDrive(0) and selectDrive(1) only: indices 10 and 11
set DRV to 0 and 1 and every other index keeps it. writeLatch(v) stores v mod 256, as 0xD5 for 0x1D5; the latch rule
uses it with all eight bits and the sense with bit 7 replaced. (R95, R98) -/
def Obligations.UnitOperationsGuardAndTruncate : Prop :=
  (∀ c : Controller, c.selectDrive 0 = { c with drv := 0 } ∧ c.selectDrive 1 = { c with drv := 1 } ∧
      ∀ n, 1 < n → c.selectDrive n = c) ∧
    (∀ (i : Instr) (s : State), ∃ t, exec i s = .next t ∧
      t.ctl.drv = if i.index = 10#4 then 0 else if i.index = 11#4 then 1 else s.ctl.drv) ∧
    (∀ (c : Controller) (v : Nat), (c.writeLatch v).dl.toNat = v % 256 ∧ c.writeLatch v = { c with dl := (c.writeLatch v).dl }) ∧
    (∀ c : Controller, (c.writeLatch 0x1D5).dl = 0xD5#8) ∧
    (∀ (c : Controller) (v : Nat), c.motor = true → c.wm = true → c.lm = true → latchRule (some v) c = c.writeLatch v) ∧
    (∀ (c : Controller) (wp : WpPins), c.motor = true → c.wm = false → ∀ n : Fin 8,
      (c.senseWriteProtect wp).dl.getLsbD n = if n = 7 then (if c.drv = 0 then wp.wp0 else wp.wp1) else c.dl.getLsbD n)

/-- A write to any index loads the latch exactly when motor, write mode and load mode are on after its own action. For
every form and state: a write that does not fault leaves DL equal to the value's low eight bits when MOTOR, WM and LM
are 1 after the access, and DL unchanged otherwise; a write that faults leaves DL; a read never loads (only the sense
of index 13 can change DL on a read). The flags tested are those after step 1, so indices 8, 12 and 14 never load and
9, 13 and 15 load when the other two flags were on: consequences the spec derives from its rules R51 and R52, the
order being its decision D22 (log entry 20). That a faulting write leaves DL is its decision D14 (log entry 13).
(40_decoder_pipeline.md sections 2, 3 and 5) -/
def Obligations.GlobalLatchRule : Prop :=
  ∀ (i : Instr) (s : State), ∃ t, exec i s = .next t ∧
    (∀ v, i.value = some v → ¬ t.Faulted →
      t.ctl.dl = if t.ctl.motor && t.ctl.wm && t.ctl.lm then BitVec.ofNat 8 v else s.ctl.dl) ∧
    (∀ v, i.value = some v → t.Faulted → t.ctl.dl = s.ctl.dl) ∧
    (i.value = none → i.index ≠ 13#4 → t.ctl.dl = s.ctl.dl) ∧
    (i.index = 8#4 ∨ i.index = 12#4 ∨ i.index = 14#4 → t.ctl.dl = s.ctl.dl) ∧
    (∀ v, i.value = some v → i.index = 9#4 → s.ctl.wm = true → s.ctl.lm = true → t.ctl.dl = BitVec.ofNat 8 v) ∧
    (∀ v, i.value = some v → i.index = 13#4 → s.ctl.motor = true → s.ctl.wm = true → t.ctl.dl = BitVec.ofNat 8 v) ∧
    (∀ v, i.value = some v → i.index = 15#4 → s.ctl.motor = true → s.ctl.lm = true → t.ctl.dl = BitVec.ofNat 8 v)

/-- The latch changes in two ways only: whole by the latch rule on a write, bit 7 by the sense on LOADON.R. If an access
changes DL, it is either a write with MOTOR, WM and LM on after it, and DL is the value's low eight bits, or a
LOADON.R with the motor on and write mode off, and only bit 7 differs, being WP[DRV]. (10_state.md section 2) -/
def Obligations.LatchChangesOnlyByWriteOrSense : Prop :=
  ∀ (i : Instr) (s : State), ∃ t, exec i s = .next t ∧
    (t.ctl.dl ≠ s.ctl.dl →
      (∃ v, i.value = some v ∧ t.ctl.dl = BitVec.ofNat 8 v ∧
        t.ctl.motor = true ∧ t.ctl.wm = true ∧ t.ctl.lm = true) ∨
      (i = .loadonR ∧ s.ctl.motor = true ∧ s.ctl.wm = false ∧ t.ctl.dl &&& 0x7F#8 = s.ctl.dl &&& 0x7F#8 ∧
        t.ctl.dl.getLsbD 7 = (if s.ctl.drv = 0 then s.wp.wp0 else s.wp.wp1)))

/-- A read of an even index with the motor on after its action returns the latch and changes nothing in doing so. For
every read form with an even index that does not fault: with MOTOR = 1 after the access the result is DL as it then
is, and SPIN and DL are as before the access; index 8 never satisfies the condition. (R54) -/
def Obligations.EvenReadWithMotorOnReturnsTheLatch : Prop :=
  ∀ (i : Instr) (s : State), i.value = none → i.index.toNat % 2 = 0 → ∃ t, exec i s = .next t ∧
    (t.ctl.motor = true → ¬ t.Faulted →
      t.result = some (.byte t.ctl.dl) ∧ t.ctl.spin = s.ctl.spin ∧ t.ctl.dl = s.ctl.dl) ∧
    (i.index = 8#4 → t.ctl.motor = false)

/-- SPIN is inverted by reads of even indices that find the motor off, and by nothing else; the sentinel follows the new
SPIN. For every form and state, SPIN is inverted exactly when the form is a read of an even index, the motor is off
after its action and the access does not fault; the result is then the sentinel named by the new SPIN, and DL is
unchanged; the two sentinels differ. The sentinels are OPEN (decisions D6, D7, log entry 5); that a faulting read
keeps SPIN is D14 (log entry 13). (40_decoder_pipeline.md section 4, 10_state.md section 3) -/
def Obligations.EvenReadWithMotorOffAlternatesTheSentinels : Prop :=
  Config.spinSentinel1 ≠ Config.spinSentinel0 ∧
    ∀ (i : Instr) (s : State), ∃ t, exec i s = .next t ∧
      ((i.value = none ∧ i.index.toNat % 2 = 0 ∧ t.ctl.motor = false ∧ ¬ t.Faulted) →
        t.ctl.spin = (!s.ctl.spin) ∧ t.ctl.dl = s.ctl.dl ∧
        t.result = some (.byte (if t.ctl.spin then Config.spinSentinel1 else Config.spinSentinel0))) ∧
      (¬ (i.value = none ∧ i.index.toNat % 2 = 0 ∧ t.ctl.motor = false ∧ ¬ t.Faulted) → t.ctl.spin = s.ctl.spin)

/-- A read of an odd index and every write return FLOAT_BUS unless they fault, and leave SPIN. For every form with an odd
index or a value: unless the access faults the result is the one byte FLOAT_BUS, and SPIN is unchanged (decisions D5,
D17; log entries 4 and 19). (40_decoder_pipeline.md section 4) -/
def Obligations.OddReadsAndWritesReturnFloatBus : Prop :=
  ∀ (i : Instr) (s : State), (i.value ≠ none ∨ i.index.toNat % 2 = 1) → ∃ t, exec i s = .next t ∧
    t.ctl.spin = s.ctl.spin ∧ (¬ t.Faulted → t.result = some (.byte Config.floatBus))

/-- The sensed bit is WP[DRV] and nothing else; the phases have no influence. With the motor on and write mode off,
LOADON.R puts WP[DRV] in bit 7; and whatever pattern PH holds, in particular PH[1], the latch after LOADON.R is the
same. (R99) -/
def Obligations.SenseTestsWriteProtectOfTheSelectedDriveAlone : Prop :=
  ∀ (s : State) (ph : Phases), ∃ t t', exec .loadonR s = .next t ∧
    exec .loadonR { s with ctl := { s.ctl with ph := ph } } = .next t' ∧ t'.ctl.dl = t.ctl.dl ∧
    (s.ctl.motor = true → s.ctl.wm = false →
      t.ctl.dl.getLsbD 7 = (if s.ctl.drv = 0 then s.wp.wp0 else s.wp.wp1))

/-- The data field never selects an operation: it can only end up, whole, in the latch, and a read ignores it. Two words
that differ in D alone have the same index and kind; if they are reads they decode to the same access; and from every
state their next states differ at most in DL, which is then the whole of each D, unextended. (R44) -/
def Obligations.DataByteNeverSelectsAnOperation : Prop :=
  ∀ w w' : AccessWord, w.extractLsb' 8 5 = w'.extractLsb' 8 5 →
    (decodeWord w).index = (decodeWord w').index ∧
    ((decodeWord w).value = none ↔ (decodeWord w').value = none) ∧
    (w.getLsbD 12 = true → decodeWord w = decodeWord w') ∧
    ∀ s : State, ∃ t t', exec (decodeWord w) s = .next t ∧ exec (decodeWord w') s = .next t' ∧
      t' = { t with ctl := { t.ctl with dl := t'.ctl.dl } } ∧
      (t'.ctl.dl = t.ctl.dl ∨ (t.ctl.dl = w.extractLsb' 0 8 ∧ t'.ctl.dl = w'.extractLsb' 0 8))

/-- MOTOR, DRV, WM and LM are written by their two switches only, PH by the phase switches only. For every form and state:
each of the four control elements takes its switch's value on indices 8 to 15 and is unchanged by every other index;
PH is unchanged by indices 8 to 15. (That index 12 clears LM is decision D20, log entry 15.) (10_state.md sections 2
and 3) -/
def Obligations.ControlFlagsAreWrittenOnlyByTheirSwitches : Prop :=
  ∀ (i : Instr) (s : State), ∃ t, exec i s = .next t ∧
    t.ctl.motor = (if i.index = 8#4 then false else if i.index = 9#4 then true else s.ctl.motor) ∧
    t.ctl.drv = (if i.index = 10#4 then 0 else if i.index = 11#4 then 1 else s.ctl.drv) ∧
    t.ctl.lm = (if i.index = 12#4 then false else if i.index = 13#4 then true else s.ctl.lm) ∧
    t.ctl.wm = (if i.index = 14#4 then false else if i.index = 15#4 then true else s.ctl.wm) ∧
    (8 ≤ i.index.toNat → t.ctl.ph = s.ctl.ph)

/-- No access changes the write-protect inputs, nor the pending accesses unless it faults under halt. For every form and
state the pins are unchanged, and the pending accesses are unchanged unless the access faults and FAULT_POLICY is
halt, when the trace ends (log entries 3 and 6). (10_state.md sections 4 and 9, 60_exceptions.md section 6) -/
def Obligations.AccessesNeverDriveThePinsOrTheHostsTrace : Prop :=
  ∀ (i : Instr) (s : State), ∃ t, exec i s = .next t ∧ t.wp = s.wp ∧
    (¬ t.Faulted → t.bus = s.bus) ∧
    (t.Faulted → t.bus = if Config.faultPolicy = .halt then [] else s.bus)

/-- Every step keeps both head positions in 0..143. From every state whose heads lie in POS_MIN..POS_MAX, step answers a
next state in which they still do; it rests on saturation, the spec's decision D13 (log entry 10). (10_state.md
section 9, 42_stepper_tracker.md section 3) -/
def Obligations.EveryStepKeepsTheHeadsInRange : Prop :=
  ∀ s : State, s.Inv → ∃ t, step s = .next t ∧ t.Inv

/-- The reset state has both heads in range. The invariant holds at reset (HEAD_INIT = 0 is the spec's decision D8, log
entry 9). (10_state.md section 9) -/
def Obligations.ResetStateHasHeadsInRange : Prop :=
  State.reset.Inv

/-- After reset every element of the block is zero, and drive 0 is the selected one. MOTOR, DRV, DL, WM, LM and SPIN are
zero as the source says; PH and POS are zero by the spec's decision D8 (log entry 9); no access is pending and none
has completed, which is the model's choice (log entries 1 and 8). (10_state.md section 9, 70_reset_and_hazards.md
section 1) -/
def Obligations.ResetIsAllZero : Prop :=
  State.reset.ctl.motor = false ∧ State.reset.ctl.drv = 0 ∧ State.reset.ctl.dl = 0#8 ∧ State.reset.ctl.wm = false ∧
    State.reset.ctl.lm = false ∧ State.reset.ctl.spin = false ∧ State.reset.ctl.ph = 0#4 ∧
    State.reset.ctl.pos0 = 0 ∧ State.reset.ctl.pos1 = 0 ∧
    State.reset.ctl.selected 0 = true ∧ State.reset.ctl.selected 1 = false ∧
    State.reset.ctl.trackNumber 0 = 0 ∧ State.reset.ctl.onWholeTrack 1 = true ∧
    State.reset.bus = [] ∧ State.reset.result = none

/-- What the first access after construction does. From reset: an even read returns SPIN_SENTINEL_1 and sets SPIN, an odd
read and every write return FLOAT_BUS and leave SPIN; no access faults, moves a head or changes the latch, whatever
the pins (decisions D5, D6, D8, D10; log entries 4, 5, 9, 11). (70_reset_and_hazards.md section 1) -/
def Obligations.FirstAccessAfterReset : Prop :=
  ∀ (i : Instr) (wp : WpPins), ∃ t, exec i { State.reset with wp := wp } = .next t ∧
    ¬ t.Faulted ∧ t.ctl.pos0 = 0 ∧ t.ctl.pos1 = 0 ∧ t.ctl.dl = 0#8 ∧
    (i.value = none → i.index.toNat % 2 = 0 → t.result = some (.byte Config.spinSentinel1) ∧ t.ctl.spin = true) ∧
    ((i.value ≠ none ∨ i.index.toNat % 2 = 1) → t.result = some (.byte Config.floatBus) ∧ t.ctl.spin = false)

/-- After every access trackNumber and onWholeTrack have the values of the new position. For every form and state, after
the access trackNumber[d] is POS[d] div 4 and onWholeTrack[d] says whether POS[d] mod 4 is 0, for the positions after
it. (R81) -/
def Obligations.TrackNumbersFollowThePosition : Prop :=
  ∀ (i : Instr) (s : State), ∃ t, exec i s = .next t ∧ ∀ d : Fin 2,
    t.ctl.trackNumber d = (if d = 0 then t.ctl.pos0 else t.ctl.pos1) / 4 ∧
    (t.ctl.onWholeTrack d = true ↔ (if d = 0 then t.ctl.pos0 else t.ctl.pos1) % 4 = 0)

/-- Exactly one drive is selected, in every state. selected[d] is DRV = d, so exactly one of the two is 1. (10_state.md
sections 3 and 9) -/
def Obligations.ExactlyOneDriveIsSelected : Prop :=
  ∀ c : Controller, ∃ d : Fin 2, c.selected d = true ∧ ∀ e : Fin 2, c.selected e = true → e = d
end

