-- ==== Sys2Proof/Laws/Decode.lean ====
section
/-! SUPPORT. Fields of packed access words. -/

namespace Sys2Proof

@[simp] theorem fieldRW_packWord (rw : Bool) (a : SwitchIndex) (d : Byte) : fieldRW (packWord rw a d) = rw := by
  unfold fieldRW packWord; rw [BitVec.getLsbD_append, BitVec.getLsbD_append]; cases rw <;> rfl

@[simp] theorem fieldA_packWord (rw : Bool) (a : SwitchIndex) (d : Byte) : fieldA (packWord rw a d) = a := by
  apply BitVec.eq_of_getLsbD_eq
  intro i hi
  simp only [fieldA, packWord, BitVec.getLsbD_extractLsb', BitVec.getLsbD_append]
  simp [hi]

@[simp] theorem fieldD_packWord (rw : Bool) (a : SwitchIndex) (d : Byte) : fieldD (packWord rw a d) = d := by
  apply BitVec.eq_of_getLsbD_eq
  intro i hi
  simp only [fieldD, packWord, BitVec.getLsbD_extractLsb', BitVec.getLsbD_append]
  simp [hi]

/-- `zext_8` keeps the low eight bits (R98). -/
@[simp] theorem zext8_toNat (v : Nat) : (zext8 v).toNat = v % 256 := by simp [zext8]

theorem switchIndex_toNat (a : Int) : (switchIndex a).toNat = (a % 16).toNat := by
  simp only [switchIndex, BitVec.toNat_ofNat]; omega

/-- A form is its index and its value. -/
theorem Instr.eq_of_index_value {i j : Instr} (h : i.index = j.index) (h' : i.value = j.value) : i = j := by
  cases i <;> cases j <;> simp_all [Instr.index, Instr.value]

theorem encode_eq_packWord (i : Instr) : encode i = packWord i.value.isNone i.index (zext8 (i.value.getD 0)) := by
  cases i <;> rfl

theorem busWord_congr {A A' : Int} (h : A % 16 = A' % 16) (V : Option Nat) : busWord A V = busWord A' V := by
  unfold busWord switchIndex; rw [h]

end Sys2Proof
end

