-- ==== Sys2Proof/Laws/State.lean ====
section
/-! SUPPORT. One lemma per field per update of the block and of the state. -/

namespace Sys2Proof.Machine

section Controller

variable (c : Controller)

@[simp] theorem Controller.setMotor_ph (on : Bool) : (c.setMotor on).ph = c.ph := rfl
@[simp] theorem Controller.setMotor_dl (on : Bool) : (c.setMotor on).dl = c.dl := rfl
@[simp] theorem Controller.setMotor_motor (on : Bool) : (c.setMotor on).motor = on := rfl
@[simp] theorem Controller.setMotor_drv (on : Bool) : (c.setMotor on).drv = c.drv := rfl
@[simp] theorem Controller.setMotor_wm (on : Bool) : (c.setMotor on).wm = c.wm := rfl
@[simp] theorem Controller.setMotor_lm (on : Bool) : (c.setMotor on).lm = c.lm := rfl
@[simp] theorem Controller.setMotor_spin (on : Bool) : (c.setMotor on).spin = c.spin := rfl
@[simp] theorem Controller.setMotor_pos0 (on : Bool) : (c.setMotor on).pos0 = c.pos0 := rfl
@[simp] theorem Controller.setMotor_pos1 (on : Bool) : (c.setMotor on).pos1 = c.pos1 := rfl

@[simp] theorem Controller.writeLatch_ph (v : Nat) : (c.writeLatch v).ph = c.ph := rfl
@[simp] theorem Controller.writeLatch_dl (v : Nat) : (c.writeLatch v).dl = zext8 v := rfl
@[simp] theorem Controller.writeLatch_motor (v : Nat) : (c.writeLatch v).motor = c.motor := rfl
@[simp] theorem Controller.writeLatch_drv (v : Nat) : (c.writeLatch v).drv = c.drv := rfl
@[simp] theorem Controller.writeLatch_wm (v : Nat) : (c.writeLatch v).wm = c.wm := rfl
@[simp] theorem Controller.writeLatch_lm (v : Nat) : (c.writeLatch v).lm = c.lm := rfl
@[simp] theorem Controller.writeLatch_spin (v : Nat) : (c.writeLatch v).spin = c.spin := rfl
@[simp] theorem Controller.writeLatch_pos0 (v : Nat) : (c.writeLatch v).pos0 = c.pos0 := rfl
@[simp] theorem Controller.writeLatch_pos1 (v : Nat) : (c.writeLatch v).pos1 = c.pos1 := rfl

@[simp] theorem Controller.setLoadMode_ph (on : Bool) : (c.setLoadMode on).ph = c.ph := rfl
@[simp] theorem Controller.setLoadMode_dl (on : Bool) : (c.setLoadMode on).dl = c.dl := rfl
@[simp] theorem Controller.setLoadMode_motor (on : Bool) : (c.setLoadMode on).motor = c.motor := rfl
@[simp] theorem Controller.setLoadMode_drv (on : Bool) : (c.setLoadMode on).drv = c.drv := rfl
@[simp] theorem Controller.setLoadMode_wm (on : Bool) : (c.setLoadMode on).wm = c.wm := rfl
@[simp] theorem Controller.setLoadMode_lm (on : Bool) : (c.setLoadMode on).lm = on := rfl
@[simp] theorem Controller.setLoadMode_spin (on : Bool) : (c.setLoadMode on).spin = c.spin := rfl
@[simp] theorem Controller.setLoadMode_pos0 (on : Bool) : (c.setLoadMode on).pos0 = c.pos0 := rfl
@[simp] theorem Controller.setLoadMode_pos1 (on : Bool) : (c.setLoadMode on).pos1 = c.pos1 := rfl

@[simp] theorem Controller.setWriteMode_ph (on : Bool) : (c.setWriteMode on).ph = c.ph := rfl
@[simp] theorem Controller.setWriteMode_dl (on : Bool) : (c.setWriteMode on).dl = c.dl := rfl
@[simp] theorem Controller.setWriteMode_motor (on : Bool) : (c.setWriteMode on).motor = c.motor := rfl
@[simp] theorem Controller.setWriteMode_drv (on : Bool) : (c.setWriteMode on).drv = c.drv := rfl
@[simp] theorem Controller.setWriteMode_wm (on : Bool) : (c.setWriteMode on).wm = on := rfl
@[simp] theorem Controller.setWriteMode_lm (on : Bool) : (c.setWriteMode on).lm = c.lm := rfl
@[simp] theorem Controller.setWriteMode_spin (on : Bool) : (c.setWriteMode on).spin = c.spin := rfl
@[simp] theorem Controller.setWriteMode_pos0 (on : Bool) : (c.setWriteMode on).pos0 = c.pos0 := rfl
@[simp] theorem Controller.setWriteMode_pos1 (on : Bool) : (c.setWriteMode on).pos1 = c.pos1 := rfl

@[simp] theorem Controller.toggleSpin_ph : c.toggleSpin.ph = c.ph := rfl
@[simp] theorem Controller.toggleSpin_dl : c.toggleSpin.dl = c.dl := rfl
@[simp] theorem Controller.toggleSpin_motor : c.toggleSpin.motor = c.motor := rfl
@[simp] theorem Controller.toggleSpin_drv : c.toggleSpin.drv = c.drv := rfl
@[simp] theorem Controller.toggleSpin_wm : c.toggleSpin.wm = c.wm := rfl
@[simp] theorem Controller.toggleSpin_lm : c.toggleSpin.lm = c.lm := rfl
@[simp] theorem Controller.toggleSpin_spin : c.toggleSpin.spin = !c.spin := rfl
@[simp] theorem Controller.toggleSpin_pos0 : c.toggleSpin.pos0 = c.pos0 := rfl
@[simp] theorem Controller.toggleSpin_pos1 : c.toggleSpin.pos1 = c.pos1 := rfl

@[simp] theorem Controller.setPh_ph (x : Phases) : (c.setPh x).ph = x := rfl
@[simp] theorem Controller.setPh_dl (x : Phases) : (c.setPh x).dl = c.dl := rfl
@[simp] theorem Controller.setPh_motor (x : Phases) : (c.setPh x).motor = c.motor := rfl
@[simp] theorem Controller.setPh_drv (x : Phases) : (c.setPh x).drv = c.drv := rfl
@[simp] theorem Controller.setPh_wm (x : Phases) : (c.setPh x).wm = c.wm := rfl
@[simp] theorem Controller.setPh_lm (x : Phases) : (c.setPh x).lm = c.lm := rfl
@[simp] theorem Controller.setPh_spin (x : Phases) : (c.setPh x).spin = c.spin := rfl
@[simp] theorem Controller.setPh_pos0 (x : Phases) : (c.setPh x).pos0 = c.pos0 := rfl
@[simp] theorem Controller.setPh_pos1 (x : Phases) : (c.setPh x).pos1 = c.pos1 := rfl

@[simp] theorem Controller.setPos_ph (d : Fin 2) (x : Nat) : (c.setPos d x).ph = c.ph := by
  unfold Controller.setPos; split <;> rfl
@[simp] theorem Controller.setPos_dl (d : Fin 2) (x : Nat) : (c.setPos d x).dl = c.dl := by
  unfold Controller.setPos; split <;> rfl
@[simp] theorem Controller.setPos_motor (d : Fin 2) (x : Nat) : (c.setPos d x).motor = c.motor := by
  unfold Controller.setPos; split <;> rfl
@[simp] theorem Controller.setPos_drv (d : Fin 2) (x : Nat) : (c.setPos d x).drv = c.drv := by
  unfold Controller.setPos; split <;> rfl
@[simp] theorem Controller.setPos_wm (d : Fin 2) (x : Nat) : (c.setPos d x).wm = c.wm := by
  unfold Controller.setPos; split <;> rfl
@[simp] theorem Controller.setPos_lm (d : Fin 2) (x : Nat) : (c.setPos d x).lm = c.lm := by
  unfold Controller.setPos; split <;> rfl
@[simp] theorem Controller.setPos_spin (d : Fin 2) (x : Nat) : (c.setPos d x).spin = c.spin := by
  unfold Controller.setPos; split <;> rfl
@[simp] theorem Controller.setPos_pos0 (d : Fin 2) (x : Nat) : (c.setPos d x).pos0 = if d = 0 then x else c.pos0 := by
  unfold Controller.setPos; split <;> rfl
@[simp] theorem Controller.setPos_pos1 (d : Fin 2) (x : Nat) : (c.setPos d x).pos1 = if d = 0 then c.pos1 else x := by
  unfold Controller.setPos; split <;> rfl

@[simp] theorem Controller.selectDrive_ph (n : Nat) : (c.selectDrive n).ph = c.ph := by
  unfold Controller.selectDrive; split <;> rfl
@[simp] theorem Controller.selectDrive_dl (n : Nat) : (c.selectDrive n).dl = c.dl := by
  unfold Controller.selectDrive; split <;> rfl
@[simp] theorem Controller.selectDrive_motor (n : Nat) : (c.selectDrive n).motor = c.motor := by
  unfold Controller.selectDrive; split <;> rfl
@[simp] theorem Controller.selectDrive_wm (n : Nat) : (c.selectDrive n).wm = c.wm := by
  unfold Controller.selectDrive; split <;> rfl
@[simp] theorem Controller.selectDrive_lm (n : Nat) : (c.selectDrive n).lm = c.lm := by
  unfold Controller.selectDrive; split <;> rfl
@[simp] theorem Controller.selectDrive_spin (n : Nat) : (c.selectDrive n).spin = c.spin := by
  unfold Controller.selectDrive; split <;> rfl
@[simp] theorem Controller.selectDrive_pos0 (n : Nat) : (c.selectDrive n).pos0 = c.pos0 := by
  unfold Controller.selectDrive; split <;> rfl
@[simp] theorem Controller.selectDrive_pos1 (n : Nat) : (c.selectDrive n).pos1 = c.pos1 := by
  unfold Controller.selectDrive; split <;> rfl
@[simp] theorem Controller.selectDrive_zero : c.selectDrive 0 = { c with drv := 0 } := rfl
@[simp] theorem Controller.selectDrive_one : c.selectDrive 1 = { c with drv := 1 } := rfl
@[simp] theorem Controller.readLatch_eq : c.readLatch = c.dl := rfl

@[simp] theorem Controller.moveHead_ph (dl : Int) : (c.moveHead dl).ph = c.ph := by
  simp [Controller.moveHead]
@[simp] theorem Controller.moveHead_dl (dl : Int) : (c.moveHead dl).dl = c.dl := by
  simp [Controller.moveHead]
@[simp] theorem Controller.moveHead_motor (dl : Int) : (c.moveHead dl).motor = c.motor := by
  simp [Controller.moveHead]
@[simp] theorem Controller.moveHead_drv (dl : Int) : (c.moveHead dl).drv = c.drv := by
  simp [Controller.moveHead]
@[simp] theorem Controller.moveHead_wm (dl : Int) : (c.moveHead dl).wm = c.wm := by
  simp [Controller.moveHead]
@[simp] theorem Controller.moveHead_lm (dl : Int) : (c.moveHead dl).lm = c.lm := by
  simp [Controller.moveHead]
@[simp] theorem Controller.moveHead_spin (dl : Int) : (c.moveHead dl).spin = c.spin := by
  simp [Controller.moveHead]
@[simp] theorem Controller.moveHead_pos0 (dl : Int) : (c.moveHead dl).pos0 = if c.drv = 0 then clamp ((c.pos0 : Int) + dl) else c.pos0 := by
  unfold Controller.moveHead Controller.pos; by_cases h : c.drv = 0 <;> simp [h]
@[simp] theorem Controller.moveHead_pos1 (dl : Int) : (c.moveHead dl).pos1 = if c.drv = 0 then c.pos1 else clamp ((c.pos1 : Int) + dl) := by
  unfold Controller.moveHead Controller.pos; by_cases h : c.drv = 0 <;> simp [h]

end Controller

section State

variable (s : State)

@[simp] theorem State.complete_wp (i : SwitchIndex) (v : Option Nat) (c : Controller) :
    (s.complete i v c).wp = s.wp := rfl
@[simp] theorem State.complete_bus (i : SwitchIndex) (v : Option Nat) (c : Controller) :
    (s.complete i v c).bus = s.bus := rfl
@[simp] theorem State.complete_ctl (i : SwitchIndex) (v : Option Nat) (c : Controller) :
    (s.complete i v c).ctl = returnState i v (latchRule v c) := rfl
@[simp] theorem State.complete_result (i : SwitchIndex) (v : Option Nat) (c : Controller) :
    (s.complete i v c).result = some (.byte (returnByte i v (returnState i v (latchRule v c)))) := rfl
@[simp] theorem State.takeFault_wp (f : Fault) (c : Controller) : (s.takeFault f c).wp = s.wp := rfl
@[simp] theorem State.takeFault_bus (f : Fault) (c : Controller) : (s.takeFault f c).bus = busAfterFault s.bus := rfl
@[simp] theorem State.takeFault_ctl (f : Fault) (c : Controller) : (s.takeFault f c).ctl = c := rfl
@[simp] theorem State.takeFault_result (f : Fault) (c : Controller) : (s.takeFault f c).result = some (.fault f) := rfl
@[simp] theorem State.issue_wp (a : Int) (v : Option Nat) (w : WpPins) : (s.issue a v w).wp = s.wp := rfl
@[simp] theorem State.issue_ctl (a : Int) (v : Option Nat) (w : WpPins) : (s.issue a v w).ctl = s.ctl := rfl
@[simp] theorem State.issue_result (a : Int) (v : Option Nat) (w : WpPins) : (s.issue a v w).result = s.result := rfl
@[simp] theorem State.issue_bus (a : Int) (v : Option Nat) (w : WpPins) : (s.issue a v w).bus = s.bus ++ [⟨a, v, w⟩] := rfl

end State

end Sys2Proof.Machine
end

