-- ==== Sys2Proof/Laws/Ops.lean ====
section
/-! SUPPORT. What each shared operation can do, said once. -/

namespace Sys2Proof.Machine

/-! ### Operands -/

theorem phaseNumber_eq (i : SwitchIndex) : phaseNumber i = i.toNat / 2 := by
  revert i; decide

theorem switchValue_eq (i : SwitchIndex) : switchValue i = decide (i.toNat % 2 = 1) := by
  revert i; decide

theorem evenIndex_eq (i : SwitchIndex) : evenIndex i = decide (i.toNat % 2 = 0) := by
  revert i; decide

/-! ### The tracker -/

theorem clamp_le (x : Int) : clamp x ≤ Config.posMax := by
  unfold clamp Config.posMin Config.posMax; omega

theorem clamp_inside {x : Int} (h0 : 0 ≤ x) (h1 : x ≤ 143) : clamp x = x.toNat := by
  unfold clamp Config.posMin Config.posMax; omega

theorem popcount_le (ph : Phases) : popcount ph ≤ 4 := by
  revert ph; decide

theorem resolve_fault_iff (prev cur : Phases) : resolve prev cur = .fault ↔ 2 < popcount cur := by
  revert prev cur; decide

theorem dir_unit (a b : Nat) : dir a b = 1 ∨ dir a b = -1 := by
  unfold dir; dsimp only
  generalize (if ((a : Int) - (b : Int)).natAbs > 1 then !decide (b ≤ a) else decide (b ≤ a)) = up
  cases up <;> simp

theorem resolve_cases (prev cur : Phases) :
    resolve prev cur = .fault ∨ resolve prev cur = .noMove ∨
    resolve prev cur = .move 1 ∨ resolve prev cur = .move (-1) := by
  revert prev cur; decide

theorem setPhase_bit (ph : Phases) (p q : Fin 4) (on : Bool) :
    (setPhase ph p on).getLsbD q = if p = q then on else ph.getLsbD q := by
  revert ph p q on; decide

/-! ### Step 1 -/

/-- Either the pattern has more than two phases and the fault is raised on the written register, or the switch is done and
only `PH` and the selected head may have changed. -/
theorem phaseSwitch_cases (i : SwitchIndex) (c : Controller) :
    (2 < popcount (setPhase c.ph (phaseNumber i) (switchValue i)) ∧
      phaseSwitch i c = .raised .invalidMotorState (c.setPh (setPhase c.ph (phaseNumber i) (switchValue i)))) ∨
    (popcount (setPhase c.ph (phaseNumber i) (switchValue i)) ≤ 2 ∧
      resolve c.ph (setPhase c.ph (phaseNumber i) (switchValue i)) = .noMove ∧
      phaseSwitch i c = .done (c.setPh (setPhase c.ph (phaseNumber i) (switchValue i)))) ∨
    (popcount (setPhase c.ph (phaseNumber i) (switchValue i)) ≤ 2 ∧
      ∃ dl, resolve c.ph (setPhase c.ph (phaseNumber i) (switchValue i)) = .move dl ∧
        phaseSwitch i c = .done ((c.setPh (setPhase c.ph (phaseNumber i) (switchValue i))).moveHead dl)) := by
  unfold phaseSwitch
  generalize setPhase c.ph (phaseNumber i) (switchValue i) = cur
  have hf := resolve_fault_iff c.ph cur
  cases h : resolve c.ph cur with
  | fault => exact .inl ⟨hf.mp h, by simp [h]⟩
  | noMove =>
    have : ¬ 2 < popcount cur := fun hc => by simp [hf.mpr hc] at h
    exact .inr (.inl ⟨by omega, rfl, by simp [h]⟩)
  | move dl =>
    have : ¬ 2 < popcount cur := fun hc => by simp [hf.mpr hc] at h
    exact .inr (.inr ⟨by omega, dl, rfl, by simp [h]⟩)

/-! ### Steps 2 and 3 -/

section Steps

variable (i : SwitchIndex) (v : Option Nat) (c : Controller)

@[simp] theorem latchRule_read : latchRule none c = c := rfl

theorem latchRule_write (x : Nat) :
    latchRule (some x) c = { c with dl := if c.motor && c.wm && c.lm then zext8 x else c.dl } := by
  unfold latchRule Controller.writeLatch; dsimp only; split <;> rfl

theorem latchRule_eq :
    latchRule v c = { c with dl := (latchRule v c).dl } := by
  cases v with
  | none => rfl
  | some x => rw [latchRule_write]

theorem returnState_eq :
    returnState i v c = { c with spin := c.spin ^^ (v.isNone && evenIndex i && !c.motor) } := by
  unfold returnState Controller.toggleSpin
  split <;> rename_i h <;> simp [h]

@[simp] theorem latchRule_ph : (latchRule v c).ph = c.ph := by rw [latchRule_eq]
@[simp] theorem latchRule_motor : (latchRule v c).motor = c.motor := by rw [latchRule_eq]
@[simp] theorem latchRule_drv : (latchRule v c).drv = c.drv := by rw [latchRule_eq]
@[simp] theorem latchRule_wm : (latchRule v c).wm = c.wm := by rw [latchRule_eq]
@[simp] theorem latchRule_lm : (latchRule v c).lm = c.lm := by rw [latchRule_eq]
@[simp] theorem latchRule_spin : (latchRule v c).spin = c.spin := by rw [latchRule_eq]
@[simp] theorem latchRule_pos0 : (latchRule v c).pos0 = c.pos0 := by rw [latchRule_eq]
@[simp] theorem latchRule_pos1 : (latchRule v c).pos1 = c.pos1 := by rw [latchRule_eq]

@[simp] theorem returnState_ph : (returnState i v c).ph = c.ph := by rw [returnState_eq]
@[simp] theorem returnState_dl : (returnState i v c).dl = c.dl := by rw [returnState_eq]
@[simp] theorem returnState_motor : (returnState i v c).motor = c.motor := by rw [returnState_eq]
@[simp] theorem returnState_drv : (returnState i v c).drv = c.drv := by rw [returnState_eq]
@[simp] theorem returnState_wm : (returnState i v c).wm = c.wm := by rw [returnState_eq]
@[simp] theorem returnState_lm : (returnState i v c).lm = c.lm := by rw [returnState_eq]
@[simp] theorem returnState_pos0 : (returnState i v c).pos0 = c.pos0 := by rw [returnState_eq]
@[simp] theorem returnState_pos1 : (returnState i v c).pos1 = c.pos1 := by rw [returnState_eq]

theorem returnState_spin :
    (returnState i v c).spin = (c.spin ^^ (v.isNone && evenIndex i && !c.motor)) := by rw [returnState_eq]

/-- The sense keeps bits 6:0 of the latch and puts the sensed level in bit 7. -/
theorem sensedLatch_bit (dl : Byte) (level : Bool) (n : Fin 8) :
    (sensedLatch dl level).getLsbD n = if n = 7 then level else dl.getLsbD n := by
  revert dl level n; decide

end Steps

/-! ### The trace after a fault -/

theorem busAfterFault_eq (bus : List BusCycle) :
    busAfterFault bus = if Config.faultPolicy = .halt then [] else bus := by
  unfold busAfterFault; cases Config.faultPolicy <;> rfl

/-! ### One access -/

theorem access_done {i : SwitchIndex} {v : Option Nat} {action : Controller → Switched} {s : State} {c : Controller}
    (h : action s.ctl = .done c) : access i v action s = .next (s.complete i v c) := by
  simp [access, h]

theorem access_raised {i : SwitchIndex} {v : Option Nat} {action : Controller → Switched} {s : State} {f : Fault}
    {c : Controller} (h : action s.ctl = .raised f c) : access i v action s = .next (s.takeFault f c) := by
  simp [access, h]

/-- An access that answers `t` either completed with a byte or took the fault; there is no other case (R4). -/
theorem access_cases {i : SwitchIndex} {v : Option Nat} {action : Controller → Switched} {s t : State}
    (h : access i v action s = .next t) :
    (∃ c, action s.ctl = .done c ∧ t = s.complete i v c) ∨
    (∃ f c, action s.ctl = .raised f c ∧ t = s.takeFault f c) := by
  unfold access at h
  cases ha : action s.ctl with
  | done c => rw [ha] at h; exact .inl ⟨c, rfl, by injection h with h; exact h.symm⟩
  | raised f c => rw [ha] at h; exact .inr ⟨f, c, rfl, by injection h with h; exact h.symm⟩

/-! ### The queue -/

theorem fetch_empty (s : State) (h : s.bus = []) : s.fetch = none := by
  simp [State.fetch, h]

theorem fetch_cons (s : State) (c : BusCycle) (rest : List BusCycle) (h : s.bus = c :: rest) :
    s.fetch = some (decodeAccess c.addr c.value, { s with bus := rest, wp := c.wp }) := by
  simp [State.fetch, h]

end Sys2Proof.Machine
end

