-- ==== Sys2Proof/Laws/Exec.lean ====
section
/-! SUPPORT. `exec` as one access: index, value and switch action of each form. -/

namespace Sys2Proof.Machine

/-- Step 1 of a form: the action of its switch (40_decoder_pipeline.md R52). -/
def switchAction (i : Instr) (wp : WpPins) (c : Controller) : Switched :=
  match i with
  | .ph0offR | .ph0offW _ | .ph0onR | .ph0onW _ | .ph1offR | .ph1offW _ | .ph1onR | .ph1onW _
  | .ph2offR | .ph2offW _ | .ph2onR | .ph2onW _ | .ph3offR | .ph3offW _ | .ph3onR | .ph3onW _ => phaseSwitch i.index c
  | .motoroffR | .motoroffW _ => .done (c.setMotor false)
  | .motoronR | .motoronW _ => .done (c.setMotor true)
  | .drv0selR | .drv0selW _ => .done (c.selectDrive 0)
  | .drv1selR | .drv1selW _ => .done (c.selectDrive 1)
  | .loadoffR | .loadoffW _ => .done (c.setLoadMode false)
  | .loadonR => .done ((c.setLoadMode true).senseWriteProtect wp)
  | .loadonW _ => .done (c.setLoadMode true)
  | .writeoffR | .writeoffW _ => .done (c.setWriteMode false)
  | .writeonR | .writeonW _ => .done (c.setWriteMode true)

theorem exec_eq_access (i : Instr) (s : State) :
    exec i s = access i.index i.value (switchAction i s.wp) s := by
  cases i <;> rfl

theorem exec_next (i : Instr) (s : State) : ∃ t, exec i s = .next t := by
  rw [exec_eq_access]
  cases h : switchAction i s.wp s.ctl with
  | done c => exact ⟨_, access_done h⟩
  | raised f c => exact ⟨_, access_raised h⟩

/-- Everything an instruction can do: its switch is done and the access completes, or its switch raised the fault. -/
theorem exec_cases {i : Instr} {s t : State} (h : exec i s = .next t) :
    (∃ c, switchAction i s.wp s.ctl = .done c ∧ t = s.complete i.index i.value c) ∨
    (∃ f c, switchAction i s.wp s.ctl = .raised f c ∧ t = s.takeFault f c) :=
  access_cases (exec_eq_access i s ▸ h)

theorem switchAction_phase {i : Instr} (h : i.index.toNat < 8) (wp : WpPins) (c : Controller) :
    switchAction i wp c = phaseSwitch i.index c := by
  cases i <;> first | rfl | simp [Instr.index] at h

end Sys2Proof.Machine
end

