-- ==== Sys2Proof/Laws/PerInstr.lean ====
section
/-! SUPPORT. Facts about each instruction as syntax. -/

namespace Sys2Proof.Laws.EncodeFields

/-- The encoded word says in bit 12 whether the form is a read and in bits 11:8 its index. -/
def Statement (i : Instr) : Prop := fieldRW (encode i) = i.value.isNone ∧ fieldA (encode i) = i.index

theorem ph0offR : Statement .ph0offR := by simp [Statement, encode, readWord, Instr.value, Instr.index]

theorem ph0offW (v : Nat) : Statement (.ph0offW v) := by simp [Statement, encode, writeWord, Instr.value, Instr.index]

theorem ph0onR : Statement .ph0onR := by simp [Statement, encode, readWord, Instr.value, Instr.index]

theorem ph0onW (v : Nat) : Statement (.ph0onW v) := by simp [Statement, encode, writeWord, Instr.value, Instr.index]

theorem ph1offR : Statement .ph1offR := by simp [Statement, encode, readWord, Instr.value, Instr.index]

theorem ph1offW (v : Nat) : Statement (.ph1offW v) := by simp [Statement, encode, writeWord, Instr.value, Instr.index]

theorem ph1onR : Statement .ph1onR := by simp [Statement, encode, readWord, Instr.value, Instr.index]

theorem ph1onW (v : Nat) : Statement (.ph1onW v) := by simp [Statement, encode, writeWord, Instr.value, Instr.index]

theorem ph2offR : Statement .ph2offR := by simp [Statement, encode, readWord, Instr.value, Instr.index]

theorem ph2offW (v : Nat) : Statement (.ph2offW v) := by simp [Statement, encode, writeWord, Instr.value, Instr.index]

theorem ph2onR : Statement .ph2onR := by simp [Statement, encode, readWord, Instr.value, Instr.index]

theorem ph2onW (v : Nat) : Statement (.ph2onW v) := by simp [Statement, encode, writeWord, Instr.value, Instr.index]

theorem ph3offR : Statement .ph3offR := by simp [Statement, encode, readWord, Instr.value, Instr.index]

theorem ph3offW (v : Nat) : Statement (.ph3offW v) := by simp [Statement, encode, writeWord, Instr.value, Instr.index]

theorem ph3onR : Statement .ph3onR := by simp [Statement, encode, readWord, Instr.value, Instr.index]

theorem ph3onW (v : Nat) : Statement (.ph3onW v) := by simp [Statement, encode, writeWord, Instr.value, Instr.index]

theorem motoroffR : Statement .motoroffR := by simp [Statement, encode, readWord, Instr.value, Instr.index]

theorem motoroffW (v : Nat) : Statement (.motoroffW v) := by simp [Statement, encode, writeWord, Instr.value, Instr.index]

theorem motoronR : Statement .motoronR := by simp [Statement, encode, readWord, Instr.value, Instr.index]

theorem motoronW (v : Nat) : Statement (.motoronW v) := by simp [Statement, encode, writeWord, Instr.value, Instr.index]

theorem drv0selR : Statement .drv0selR := by simp [Statement, encode, readWord, Instr.value, Instr.index]

theorem drv0selW (v : Nat) : Statement (.drv0selW v) := by simp [Statement, encode, writeWord, Instr.value, Instr.index]

theorem drv1selR : Statement .drv1selR := by simp [Statement, encode, readWord, Instr.value, Instr.index]

theorem drv1selW (v : Nat) : Statement (.drv1selW v) := by simp [Statement, encode, writeWord, Instr.value, Instr.index]

theorem loadoffR : Statement .loadoffR := by simp [Statement, encode, readWord, Instr.value, Instr.index]

theorem loadoffW (v : Nat) : Statement (.loadoffW v) := by simp [Statement, encode, writeWord, Instr.value, Instr.index]

theorem loadonR : Statement .loadonR := by simp [Statement, encode, readWord, Instr.value, Instr.index]

theorem loadonW (v : Nat) : Statement (.loadonW v) := by simp [Statement, encode, writeWord, Instr.value, Instr.index]

theorem writeoffR : Statement .writeoffR := by simp [Statement, encode, readWord, Instr.value, Instr.index]

theorem writeoffW (v : Nat) : Statement (.writeoffW v) := by simp [Statement, encode, writeWord, Instr.value, Instr.index]

theorem writeonR : Statement .writeonR := by simp [Statement, encode, readWord, Instr.value, Instr.index]

theorem writeonW (v : Nat) : Statement (.writeonW v) := by simp [Statement, encode, writeWord, Instr.value, Instr.index]

end Sys2Proof.Laws.EncodeFields
end

