-- ==== Sys2Proof/Tests/Slice0.lean ====
section
/-! SUPPORT. Small tests. The expected results are the spec's: the encoding lines of the rules and the vectors of
95_test_vectors.md, named beside each. Bytes that are OPEN parameters are compared by name. -/

namespace Sys2Proof.Tests

open Sys2Proof Sys2Proof.Machine

/-! ### Well-formedness (20_memory.md R29) -/

theorem test_wide_value_is_ill_formed : ¬ (Instr.writeonW 0x1D5).WellFormed := by decide
theorem test_value_256_is_ill_formed : ¬ (Instr.ph0offW 256).WellFormed := by decide
theorem test_value_255_is_well_formed : (Instr.ph0offW 255).WellFormed := by decide

/-! ### Decoding: one word of every row, from the encoding lines of R61 to R68 and R85 to R93 -/

theorem test_decode_ph0offR : decode 0x1000 = .ok .ph0offR := by decide
theorem test_decode_ph0offW : decode 0x005A = .ok (.ph0offW 0x5A) := by decide
theorem test_decode_ph0onR : decode 0x1100 = .ok .ph0onR := by decide
theorem test_decode_ph0onW : decode 0x015B = .ok (.ph0onW 0x5B) := by decide
theorem test_decode_ph1offR : decode 0x1200 = .ok .ph1offR := by decide
theorem test_decode_ph1offW : decode 0x025C = .ok (.ph1offW 0x5C) := by decide
theorem test_decode_ph1onR : decode 0x1300 = .ok .ph1onR := by decide
theorem test_decode_ph1onW : decode 0x035D = .ok (.ph1onW 0x5D) := by decide
theorem test_decode_ph2offR : decode 0x1400 = .ok .ph2offR := by decide
theorem test_decode_ph2offW : decode 0x045E = .ok (.ph2offW 0x5E) := by decide
theorem test_decode_ph2onR : decode 0x1500 = .ok .ph2onR := by decide
theorem test_decode_ph2onW : decode 0x055F = .ok (.ph2onW 0x5F) := by decide
theorem test_decode_ph3offR : decode 0x1600 = .ok .ph3offR := by decide
theorem test_decode_ph3offW : decode 0x0660 = .ok (.ph3offW 0x60) := by decide
theorem test_decode_ph3onR : decode 0x1700 = .ok .ph3onR := by decide
theorem test_decode_ph3onW : decode 0x0761 = .ok (.ph3onW 0x61) := by decide
theorem test_decode_motoroffR : decode 0x1800 = .ok .motoroffR := by decide
theorem test_decode_motoroffW : decode 0x0862 = .ok (.motoroffW 0x62) := by decide
theorem test_decode_motoronR : decode 0x1900 = .ok .motoronR := by decide
theorem test_decode_motoronW : decode 0x0963 = .ok (.motoronW 0x63) := by decide
theorem test_decode_drv0selR : decode 0x1A00 = .ok .drv0selR := by decide
theorem test_decode_drv0selW : decode 0x0A64 = .ok (.drv0selW 0x64) := by decide
theorem test_decode_drv1selR : decode 0x1B00 = .ok .drv1selR := by decide
theorem test_decode_drv1selW : decode 0x0B65 = .ok (.drv1selW 0x65) := by decide
theorem test_decode_loadoffR : decode 0x1C00 = .ok .loadoffR := by decide
theorem test_decode_loadoffW : decode 0x0C66 = .ok (.loadoffW 0x66) := by decide
theorem test_decode_loadonR : decode 0x1D00 = .ok .loadonR := by decide
theorem test_decode_loadonW : decode 0x0D67 = .ok (.loadonW 0x67) := by decide
theorem test_decode_writeoffR : decode 0x1E00 = .ok .writeoffR := by decide
theorem test_decode_writeoffW : decode 0x0E68 = .ok (.writeoffW 0x68) := by decide
theorem test_decode_writeonR : decode 0x1F00 = .ok .writeonR := by decide
theorem test_decode_writeonW : decode 0x0F69 = .ok (.writeonW 0x69) := by decide

theorem test_read_ignores_data : decode 0x1D7F = .ok .loadonR := by decide
theorem test_number_above_13_bits_is_refused : decode 0x2000 = .error .notAnAccessWord := by decide
theorem test_encode_write : encode (.loadonW 0xD5) = 0x0DD5#13 := by decide
theorem test_encode_read : encode .writeonR = 0x1F00#13 := by decide
theorem test_bus_address : decodeAccess 0xC0ED none = .loadonR ∧ decodeAccess (-1) (some 0x1D5) = .writeonW 0xD5 := by decide
theorem test_trace_syntax : (Instr.loadonW 0xD5).mnemonicForm = "LOADON.W #$D5" ∧ Instr.ph1onR.addressForm = "RD $3" := by decide

/-! ### The tracker (vectors V-RES) -/

theorem test_resolve_up : resolve 0b0010#4 0b0110#4 = .move 1 := by decide
theorem test_resolve_wrap_down : resolve 0b0001#4 0b1001#4 = .move (-1) := by decide
theorem test_resolve_opposite_pair : resolve 0b0101#4 0b0100#4 = .move (-1) := by decide
theorem test_resolve_three_to_two : resolve 0b0111#4 0b0110#4 = .noMove := by decide
theorem test_resolve_four_to_three : resolve 0b1111#4 0b1110#4 = .fault := by decide
theorem test_resolve_unreachable_pair : resolve 0b0001#4 0b0010#4 = .move 1 ∧ resolve 0b0111#4 0b1000#4 = .noMove := by decide

/-! ### One access each (vectors V-PH, V-FAULT, V-MOTOR, V-DRV, V-SENSE, V-LATCH, V-SPIN) -/

/-- A block built from the elements a vector names; the others as at reset. -/
def blk (ph : Phases := 0#4) (motor : Bool := false) (drv : Fin 2 := 0) (dl : Byte := 0#8) (wm : Bool := false)
    (lm : Bool := false) (spin : Bool := false) (pos0 : Nat := 0) (pos1 : Nat := 0) : Controller :=
  ⟨ph, dl, motor, drv, wm, lm, spin, pos0, pos1⟩

/-- A state around a block, with the write-protect levels given. -/
def around (c : Controller) (wp : WpPins := ⟨false, false⟩) : State := { State.reset with ctl := c, wp := wp }

/-- The access completes: block and returned byte. -/
def Gives (i : Instr) (before after : Controller) (b : Byte) (wp : WpPins := ⟨false, false⟩) : Prop :=
  exec i (around before wp) = .next { around after wp with result := some (.byte b) }

/-- The access faults: block. -/
def Faults (i : Instr) (before after : Controller) : Prop :=
  exec i (around before) = .next { around after with
    result := some (.fault .invalidMotorState), bus := busAfterFault [] }

-- V-PH
theorem test_ph0on_first_phase_moves_nothing : Gives .ph0onR (blk) (blk (ph := 0b0001#4)) Config.floatBus := by rfl
theorem test_ph0on_wraparound_up : Gives .ph0onR (blk (ph := 0b1000#4) (pos0 := 6)) (blk (ph := 0b1001#4) (pos0 := 7)) Config.floatBus := by rfl
theorem test_ph0on_saturates_at_143 : Gives (.ph0onW 0x11) (blk (ph := 0b1000#4) (pos0 := 143)) (blk (ph := 0b1001#4) (pos0 := 143)) Config.floatBus := by rfl
theorem test_ph0off_up_sentinel : Gives .ph0offR (blk (ph := 0b0011#4) (pos0 := 1)) (blk (ph := 0b0010#4) (spin := true) (pos0 := 2)) Config.spinSentinel1 := by rfl
theorem test_ph0off_motor_on_latch : Gives .ph0offR (blk (ph := 0b0011#4) (motor := true) (dl := 0x96#8) (pos0 := 1)) (blk (ph := 0b0010#4) (motor := true) (dl := 0x96#8) (pos0 := 2)) 0x96#8 := by rfl
theorem test_ph1on_moves_drive_one : Gives .ph1onR (blk (ph := 0b0001#4) (drv := 1) (pos1 := 9)) (blk (ph := 0b0011#4) (drv := 1) (pos1 := 10)) Config.floatBus := by rfl
theorem test_ph1on_write_steps_and_loads : Gives (.ph1onW 0xAA) (blk (ph := 0b0001#4) (motor := true) (dl := 0x00#8) (wm := true) (lm := true)) (blk (ph := 0b0011#4) (motor := true) (dl := 0xAA#8) (wm := true) (lm := true) (pos0 := 1)) Config.floatBus := by rfl
theorem test_ph1off_down : Gives .ph1offR (blk (ph := 0b0011#4) (pos0 := 1)) (blk (ph := 0b0001#4) (spin := true)) Config.spinSentinel1 := by rfl
-- R63 worked example, as a write
theorem test_ph1off_write_up : Gives (.ph1offW 0) (blk (ph := 0b0110#4) (pos0 := 3)) (blk (ph := 0b0100#4) (pos0 := 4)) Config.floatBus := by rfl
theorem test_ph2on_up : Gives .ph2onR (blk (ph := 0b0010#4) (pos0 := 2)) (blk (ph := 0b0110#4) (pos0 := 3)) Config.floatBus := by rfl
-- R65 worked example
theorem test_ph2off_up_drive_one : Gives .ph2offR (blk (ph := 0b1100#4) (drv := 1) (pos1 := 5)) (blk (ph := 0b1000#4) (drv := 1) (spin := true) (pos1 := 6)) Config.spinSentinel1 := by rfl
-- V-PH
theorem test_ph2off_down_write : Gives (.ph2offW 7) (blk (ph := 0b0110#4) (pos0 := 3)) (blk (ph := 0b0010#4) (pos0 := 2)) Config.floatBus := by rfl
theorem test_ph3on_up : Gives .ph3onR (blk (ph := 0b0100#4) (pos0 := 4)) (blk (ph := 0b1100#4) (pos0 := 5)) Config.floatBus := by rfl
theorem test_ph3on_down_at_zero_saturates : Gives .ph3onR (blk (ph := 0b0001#4)) (blk (ph := 0b1001#4)) Config.floatBus := by rfl
theorem test_ph3off_down_second_sentinel : Gives .ph3offR (blk (ph := 0b1100#4) (spin := true) (pos0 := 5)) (blk (ph := 0b0100#4) (pos0 := 4)) Config.spinSentinel0 := by rfl
-- R67 worked example, as a write
theorem test_ph3off_write_wraparound_up : Gives (.ph3offW 0) (blk (ph := 0b1001#4) (pos0 := 7)) (blk (ph := 0b0001#4) (pos0 := 8)) Config.floatBus := by rfl
-- V-FAULT
theorem test_ph2on_third_phase_faults : Faults .ph2onR (blk (ph := 0b0011#4) (pos0 := 1)) (blk (ph := 0b0111#4) (pos0 := 1)) := by rfl
theorem test_ph2on_write_third_phase_faults : Faults (.ph2onW 0x22) (blk (ph := 0b1001#4)) (blk (ph := 0b1101#4)) := by rfl
theorem test_ph3on_write_fault_keeps_latch : Faults (.ph3onW 0x22) (blk (ph := 0b0011#4) (motor := true) (dl := 0x11#8) (wm := true) (lm := true) (pos0 := 1)) (blk (ph := 0b1011#4) (motor := true) (dl := 0x11#8) (wm := true) (lm := true) (pos0 := 1)) := by rfl
theorem test_ph0off_redundant_fault : Faults .ph0offR (blk (ph := 0b1110#4)) (blk (ph := 0b1110#4)) := by rfl
theorem test_ph0off_write_three_to_two : Gives (.ph0offW 0) (blk (ph := 0b0111#4) (pos0 := 1)) (blk (ph := 0b0110#4) (pos0 := 1)) Config.floatBus := by rfl
theorem test_motoron_with_three_phases_completes : Gives .motoronR (blk (ph := 0b0111#4)) (blk (ph := 0b0111#4) (motor := true)) Config.floatBus := by rfl
-- V-MOTOR, V-DRV
theorem test_motoroff_never_returns_latch : Gives .motoroffR (blk (motor := true) (dl := 0x96#8)) (blk (dl := 0x96#8) (spin := true)) Config.spinSentinel1 := by rfl
theorem test_motoroff_write_never_loads : Gives (.motoroffW 0x11) (blk (motor := true) (dl := 0x00#8) (wm := true) (lm := true)) (blk (dl := 0x00#8) (wm := true) (lm := true)) Config.floatBus := by rfl
theorem test_motoron_write_loads : Gives (.motoronW 0x22) (blk (dl := 0x00#8) (wm := true) (lm := true)) (blk (motor := true) (dl := 0x22#8) (wm := true) (lm := true)) Config.floatBus := by rfl
theorem test_drv0sel_returns_latch : Gives .drv0selR (blk (motor := true) (drv := 1) (dl := 0x80#8)) (blk (motor := true) (dl := 0x80#8)) 0x80#8 := by rfl
-- R87
theorem test_drv0sel_write_loads : Gives (.drv0selW 0x7E) (blk (motor := true) (drv := 1) (wm := true) (lm := true)) (blk (motor := true) (dl := 0x7E#8) (wm := true) (lm := true)) Config.floatBus := by rfl
theorem test_drv1sel_moves_no_head : Gives .drv1selR (blk (ph := 0b0011#4) (pos0 := 1)) (blk (ph := 0b0011#4) (drv := 1) (pos0 := 1)) Config.floatBus := by rfl
theorem test_drv1sel_write_loads : Gives (.drv1selW 0x77) (blk (motor := true) (dl := 0x00#8) (wm := true) (lm := true)) (blk (motor := true) (drv := 1) (dl := 0x77#8) (wm := true) (lm := true)) Config.floatBus := by rfl
-- V-SENSE
theorem test_loadon_senses_selected_drive : Gives .loadonR (blk (motor := true) (drv := 1) (dl := 0x2A#8)) (blk (motor := true) (drv := 1) (dl := 0xAA#8) (lm := true)) Config.floatBus ⟨false, true⟩ := by rfl
theorem test_loadon_clears_bit_seven : Gives .loadonR (blk (motor := true) (dl := 0xFF#8)) (blk (motor := true) (dl := 0x7F#8) (lm := true)) Config.floatBus ⟨false, false⟩ := by rfl
theorem test_loadon_write_never_senses : Gives (.loadonW 0x11) (blk (motor := true) (dl := 0x00#8)) (blk (motor := true) (dl := 0x00#8) (lm := true)) Config.floatBus ⟨true, true⟩ := by rfl
theorem test_loadon_write_loads : Gives (.loadonW 0xD5) (blk (motor := true) (dl := 0x00#8) (wm := true)) (blk (motor := true) (dl := 0xD5#8) (wm := true) (lm := true)) Config.floatBus := by rfl
theorem test_loadoff_returns_latch : Gives .loadoffR (blk (motor := true) (dl := 0xAA#8) (lm := true)) (blk (motor := true) (dl := 0xAA#8)) 0xAA#8 := by rfl
theorem test_loadoff_write_never_loads : Gives (.loadoffW 0x33) (blk (motor := true) (dl := 0xAA#8) (wm := true) (lm := true)) (blk (motor := true) (dl := 0xAA#8) (wm := true)) Config.floatBus := by rfl
-- V-LATCH
theorem test_writeon_write_loads_wide_value : Gives (.writeonW 0x1D5) (blk (motor := true) (dl := 0x00#8) (wm := true) (lm := true)) (blk (motor := true) (dl := 0xD5#8) (wm := true) (lm := true)) Config.floatBus := by rfl
theorem test_writeon_read_never_loads : Gives .writeonR (blk (motor := true) (dl := 0x12#8) (wm := true) (lm := true)) (blk (motor := true) (dl := 0x12#8) (wm := true) (lm := true)) Config.floatBus := by rfl
theorem test_writeoff_write_never_loads : Gives (.writeoffW 0x55) (blk (motor := true) (dl := 0x66#8) (wm := true) (lm := true)) (blk (motor := true) (dl := 0x66#8) (lm := true)) Config.floatBus := by rfl
theorem test_writeoff_returns_latch : Gives .writeoffR (blk (motor := true) (dl := 0x80#8) (wm := true)) (blk (motor := true) (dl := 0x80#8)) 0x80#8 := by rfl

/-! ### Step, host view, diagnostics -/

theorem test_step_runs_placed_read : step (State.reset.withFetchWord 16 0x1100) = exec .ph0onR State.reset := by rfl
theorem test_step_runs_placed_write : step (State.reset.withFetchWord 16 0x0FD5) = exec (.writeonW 0xD5) State.reset := by rfl
theorem test_step_samples_the_pins :
    step (({ State.reset with ctl := blk (motor := true) }).issue 0xC0ED none ⟨true, false⟩) =
      .next { around (blk (motor := true) (lm := true) (dl := 0x80#8)) ⟨true, false⟩ with
        result := some (.byte Config.floatBus) } := by rfl
theorem test_queue_is_first_in_first_out :
    ((State.reset.issue 0x81 none ⟨false, false⟩).issue 0x83 none ⟨false, false⟩).fetch.map (·.1) = some .ph0onR := by decide
theorem test_diagnostic_read :
    diagnosticRead (.trackNumber 0) (around (blk (pos0 := 143))) = 35 ∧
    diagnosticRead (.onWholeTrack 1) (around (blk (pos1 := 6))) = 0 ∧
    diagnosticRead (.selected 1) (around (blk (drv := 1))) = 1 := by decide

/-! ### Witnesses: a state and operands that meet the hypotheses of each statement -/

theorem witness_DecodeOfEncodeIsIdentity : (Instr.loadonW 255).WellFormed := by decide
theorem witness_EveryAccessWordDecodesAndNothingElse : 8191 < 8192 ∧ 8192 ≤ 8192 := by decide
theorem witness_WordAndBusFieldsGiveIndexAndValue : 255 < 256 := by decide
theorem witness_HighAddressBitsAreIgnored : (0xC0E1 : Int) % 16 = 1 % 16 ∧ (-1 : Int) % 16 = 15 % 16 := by decide
theorem witness_WiderValuesAreReducedToAByte :
    (Instr.writeonW 0x1D5).index = (Instr.writeonW 0xD5).index ∧ (Instr.writeonW 0x1D5).value = some 0x1D5 ∧
    (Instr.writeonW 0xD5).value = some (0x1D5 % 256) := by decide
theorem witness_StepRunsOldestPendingAccess :
    (State.reset.issue 0x81 none ⟨false, false⟩).bus = ⟨0x81, none, ⟨false, false⟩⟩ :: [] := by decide
theorem witness_StepWithNoAccessPendingChangesNothing : State.reset.bus = [] := by decide
theorem witness_PlacedWordIsTheNextAccessRun : 0x1FFF < 8192 := by decide
theorem witness_StepMatchesReferenceListing :
    (State.reset.issue 0xC0EF (some 0xD5) ⟨true, false⟩).bus = ⟨0xC0EF, some 0xD5, ⟨true, false⟩⟩ :: [] := by decide
theorem witness_FaultKeepsThePhaseWriteAndNothingElse :
    Instr.ph3onR.index.toNat < 8 ∧ 2 < popcount (setPhase (around (blk (ph := 0b0011#4))).ctl.ph
      (Instr.ph3onR.index.toNat / 2) (decide (Instr.ph3onR.index.toNat % 2 = 1))) := by decide
theorem witness_ThreeToTwoEndsTheFaultEpisode :
    phaseOffRead 0 = Instr.ph0offR ∧ popcount (around (blk (ph := 0b0111#4))).ctl.ph = 3 ∧
    (around (blk (ph := 0b0111#4))).ctl.ph.getLsbD (0 : Fin 4) = true := by decide
theorem witness_ResolveOnZeroOneAndTwoPhases :
    (0 : Fin 4) ≠ 3 ∧ 0b1001#4 &&& ~~~(1#4 <<< (0 : Fin 4).val) = 1#4 <<< (3 : Fin 4).val := by decide
theorem witness_ResolveWithoutASingleOtherPhaseMovesNothing :
    (2 < popcount 0b0111#4) ∧ (popcount 0b1000#4 = 1 ∧ popcount (0b0000#4 &&& ~~~0b1000#4) ≠ 1) ∧
    (popcount 0b0011#4 = 2 ∧ popcount 0b0111#4 ≠ 1) ∧
    (popcount 0b0110#4 = 2 ∧ popcount (0b0110#4 &&& ~~~0b0001#4) ≠ 1) := by decide
theorem witness_PhaseSwitchWritesItsFlagAlone : (Instr.ph3onW 0).index.toNat < 8 ∧ Instr.ph0offR.index.toNat < 8 := by decide
theorem witness_PhaseOffSwitchesCompleteWhenAtMostTwoRemain :
    popcount ((around (blk (ph := 0b1011#4))).ctl.ph &&& ~~~(1#4 <<< (3 : Fin 4).val)) ≤ 2 := by decide
theorem witness_PhaseOnSwitchesCompleteWhenAtMostTwoAreOn :
    popcount ((around (blk (ph := 0b1000#4))).ctl.ph ||| (1#4 <<< (0 : Fin 4).val)) ≤ 2 := by decide
theorem witness_PhaseSwitchFaultConditionsBySwitch :
    Instr.ph3offR = phaseOffRead 3 ∧ Instr.ph0onW 255 = phaseOnWrite 0 255 := by decide
theorem witness_OnlyTheSelectedHeadMoves_other : (1 : Fin 2) ≠ (around (blk)).ctl.drv ∧ 8 ≤ Instr.motoroffR.index.toNat := by decide
theorem witness_OnlyTheSelectedHeadMoves_still :
    exec .ph3onR (around (blk)) = .next { around (blk (ph := 0b1000#4)) with result := some (.byte Config.floatBus) } ∧
    Instr.ph3onR.index.toNat < 8 ∧ resolve 0b0000#4 0b1000#4 = .noMove := ⟨rfl, by decide, by decide⟩
theorem witness_OnlyTheSelectedHeadMoves_inside :
    exec .ph0onR (around (blk (ph := 0b1000#4) (pos0 := 142))) =
      .next { around (blk (ph := 0b1001#4) (pos0 := 143)) with result := some (.byte Config.floatBus) } ∧
    0 < 142 ∧ 142 < 143 ∧ resolve 0b1000#4 0b1001#4 = .move 1 := ⟨rfl, by decide, by decide, by decide⟩
theorem witness_HeadSaturatesAtTheRangeEnds_low :
    exec .ph3onR (around (blk (ph := 0b0001#4))) =
      .next { around (blk (ph := 0b1001#4)) with result := some (.byte Config.floatBus) } ∧
    Instr.ph3onR.index.toNat < 8 ∧ resolve 0b0001#4 0b1001#4 = .move (-1) := ⟨rfl, by decide, by decide⟩
theorem witness_HeadSaturatesAtTheRangeEnds_high :
    exec .ph0onR (around (blk (ph := 0b1000#4) (pos0 := 143))) =
      .next { around (blk (ph := 0b1001#4) (pos0 := 143)) with result := some (.byte Config.floatBus) } ∧
    resolve 0b1000#4 0b1001#4 = .move 1 := ⟨rfl, by decide⟩
theorem witness_OverlappedSteppingMovesOneQuarterTrack_up :
    (0 : Fin 4).val = ((3 : Fin 4).val + 1) % 4 ∧ Instr.ph0onR = phaseOnRead 0 ∧
    (around (blk (ph := 0b1000#4) (pos0 := 142))).ctl.ph = 1#4 <<< (3 : Fin 4).val ∧
    (around (blk (ph := 0b1000#4) (pos0 := 142))).ctl.pos 0 < 143 ∧
    Instr.ph3offR = phaseOffRead 3 ∧
    (around (blk (ph := 0b1001#4) (pos0 := 142))).ctl.ph = (1#4 <<< (3 : Fin 4).val) ||| (1#4 <<< (0 : Fin 4).val) := by decide
theorem witness_OverlappedSteppingMovesOneQuarterTrack_down :
    (0 : Fin 4).val = ((3 : Fin 4).val + 1) % 4 ∧ Instr.ph3onW 0 = phaseOnWrite 3 0 ∧
    (around (blk (ph := 0b0001#4) (pos0 := 1))).ctl.ph = 1#4 <<< (0 : Fin 4).val ∧
    0 < (around (blk (ph := 0b0001#4) (pos0 := 1))).ctl.pos 0 ∧ (around (blk (ph := 0b0001#4) (pos0 := 143))).ctl.pos 0 ≤ 143 ∧
    Instr.ph0offW 0 = phaseOffWrite 0 0 ∧
    (around (blk (ph := 0b1001#4) (pos0 := 1))).ctl.ph = (1#4 <<< (3 : Fin 4).val) ||| (1#4 <<< (0 : Fin 4).val) := by decide
theorem witness_HeadMovesOnlyBetweenOneAndTwoPhases :
    exec .ph1onR (around (blk (ph := 0b0001#4) (pos0 := 142))) =
      .next { around (blk (ph := 0b0011#4) (pos0 := 143)) with result := some (.byte Config.floatBus) } ∧
    (blk (pos0 := 143)).pos 0 ≠ (blk (pos0 := 142)).pos 0 ∧ (blk (pos0 := 142)).pos 0 ≤ 143 := ⟨rfl, by decide, by decide⟩
theorem witness_RedundantPhaseSwitchMovesNothing :
    Instr.ph3onR.index.toNat < 8 ∧ (around (blk (ph := 0b1000#4))).ctl.ph.getLsbD (Instr.ph3onR.index.toNat / 2) =
      decide (Instr.ph3onR.index.toNat % 2 = 1) := by decide
theorem witness_TrackerIgnoresMotorModesLatchSpinAndPins :
    (blk (ph := 0b0001#4)).ph = (blk (ph := 0b0001#4) (motor := true) (dl := 0xFF#8)).ph ∧
    (blk (ph := 0b0001#4)).drv = (blk (ph := 0b0001#4) (motor := true) (dl := 0xFF#8)).drv ∧
    (blk (ph := 0b0001#4)).pos0 = (blk (ph := 0b0001#4) (motor := true) (dl := 0xFF#8)).pos0 ∧
    (blk (ph := 0b0001#4)).pos1 = (blk (ph := 0b0001#4) (motor := true) (dl := 0xFF#8)).pos1 := by decide
theorem witness_DriveOneSelect :
    255 < 256 ∧ (blk (drv := 1) (motor := true)).drv = 1 ∧ (blk (drv := 1) (motor := true)).motor = true ∧
    (blk (drv := 1) (motor := true)).wm = false ∧ (blk (drv := 1) (ph := 0b0001#4) (pos1 := 142)).ph = 1#4 ∧
    (blk (drv := 1) (ph := 0b0001#4) (pos1 := 142)).pos1 < 143 := by decide
theorem witness_write_byte_of_every_switch_statement : 0 < 256 ∧ 255 < 256 := by decide
theorem witness_WriteOnSetsWriteModeWhateverTheWriteProtect : (blk (wm := true)).wm = true := by decide
theorem witness_UnitOperationsGuardAndTruncate :
    1 < 2 ∧ (blk (motor := true) (wm := true) (lm := true)).motor = true ∧
    (blk (motor := true) (wm := true) (lm := true)).wm = true ∧ (blk (motor := true) (wm := true) (lm := true)).lm = true ∧
    (blk (motor := true)).motor = true ∧ (blk (motor := true)).wm = false := by decide
theorem witness_GlobalLatchRule_loads :
    (Instr.ph0offW 0xAA).value = some 0xAA ∧
    exec (.ph0offW 0xAA) (around (blk (motor := true) (wm := true) (lm := true))) =
      .next { around (blk (motor := true) (wm := true) (lm := true) (dl := 0xAA#8)) with
        result := some (.byte Config.floatBus) } := ⟨rfl, rfl⟩
theorem witness_GlobalLatchRule_faults :
    (Instr.ph3onW 0x22).value = some 0x22 ∧ ∃ t, exec (.ph3onW 0x22) (around (blk (ph := 0b0011#4))) = .next t ∧ t.Faulted :=
  ⟨rfl, _, rfl, rfl⟩
theorem witness_GlobalLatchRule_indices :
    Instr.writeonR.value = none ∧ Instr.writeonR.index ≠ 13#4 ∧ (Instr.motoroffW 1).index = 8#4 ∧
    (Instr.loadoffW 1).index = 12#4 ∧ (Instr.writeoffW 1).index = 14#4 ∧ (Instr.motoronW 1).value = some 1 ∧
    (Instr.motoronW 1).index = 9#4 ∧ (Instr.loadonW 1).index = 13#4 ∧ (Instr.writeonW 1).index = 15#4 ∧
    (Instr.loadonW 1).value = some 1 ∧ (Instr.writeonW 1).value = some 1 ∧
    (blk (wm := true) (lm := true)).wm = true ∧ (blk (wm := true) (lm := true)).lm = true ∧
    (blk (motor := true) (wm := true)).motor = true ∧ (blk (motor := true) (wm := true)).wm = true ∧
    (blk (motor := true) (lm := true)).motor = true ∧ (blk (motor := true) (lm := true)).lm = true := by decide
theorem witness_LatchChangesOnlyByWriteOrSense :
    exec .loadonR (around (blk (motor := true) (dl := 0xFF#8))) =
      .next { around (blk (motor := true) (lm := true) (dl := 0x7F#8)) with result := some (.byte Config.floatBus) } ∧
    0x7F#8 ≠ 0xFF#8 := ⟨rfl, by decide⟩
theorem witness_EvenReadWithMotorOnReturnsTheLatch :
    Instr.writeoffR.value = none ∧ Instr.writeoffR.index.toNat % 2 = 0 ∧ Instr.motoroffR.index = 8#4 ∧
    exec .writeoffR (around (blk (motor := true) (dl := 0x80#8))) =
      .next { around (blk (motor := true) (dl := 0x80#8)) with result := some (.byte 0x80#8) } := ⟨rfl, rfl, rfl, rfl⟩
theorem witness_EvenReadWithMotorOffAlternatesTheSentinels :
    Instr.motoroffR.value = none ∧ Instr.motoroffR.index.toNat % 2 = 0 ∧
    exec .motoroffR (around (blk (motor := true))) =
      .next { around (blk (spin := true)) with result := some (.byte Config.spinSentinel1) } := ⟨rfl, rfl, rfl⟩
theorem witness_EvenReadWithMotorOffAlternatesTheSentinels_else : ¬ (Instr.motoronR.value = none ∧
    Instr.motoronR.index.toNat % 2 = 0) := by decide
theorem witness_OddReadsAndWritesReturnFloatBus :
    (Instr.ph0offW 0).value ≠ none ∧ Instr.writeonR.index.toNat % 2 = 1 := by decide
theorem witness_SenseTestsWriteProtectOfTheSelectedDriveAlone :
    (around (blk (motor := true))).ctl.motor = true ∧ (around (blk (motor := true))).ctl.wm = false := by decide
theorem witness_DataByteNeverSelectsAnOperation :
    (0x0DD5#13).extractLsb' 8 5 = (0x0D11#13).extractLsb' 8 5 ∧ (0x1DFF#13).getLsbD 12 = true := by decide
theorem witness_ControlFlagsAreWrittenOnlyByTheirSwitches : 8 ≤ Instr.motoroffR.index.toNat := by decide
theorem witness_AccessesNeverDriveThePinsOrTheHostsTrace :
    (∃ t, exec .ph2onR (around (blk (ph := 0b0011#4))) = .next t ∧ t.Faulted) ∧
    ∃ t, exec .ph2onR (around (blk (ph := 0b0001#4))) = .next t ∧ ¬ t.Faulted :=
  ⟨⟨_, rfl, rfl⟩, _, rfl, by simp [State.Faulted]⟩
theorem witness_EveryStepKeepsTheHeadsInRange : (around (blk (pos0 := 143) (pos1 := 143))).Inv := by
  unfold State.Inv Controller.HeadsInRange; decide
theorem witness_FirstAccessAfterReset :
    Instr.ph0offR.value = none ∧ Instr.ph0offR.index.toNat % 2 = 0 ∧ Instr.ph0onR.index.toNat % 2 = 1 := by decide
theorem witness_ExactlyOneDriveIsSelected : (blk (drv := 1)).selected 1 = true := by decide

end Sys2Proof.Tests
end

/-! ### The outcome of one access (00_scope.md R4) -/

namespace Sys2Proof.Machine

/-- R4 for the state an access answers: the completed access carries the byte of step 3, the other carries the taxonomy's
one fault. -/
theorem result_byte_or_fault_of_exec {i : Instr} {s t : State} (h : exec i s = .next t) :
    (∃ b : Byte, t.result = some (.byte b)) ∨ t.result = some (.fault .invalidMotorState) := by
  obtain ⟨c, -, rfl⟩ | ⟨f, c, -, rfl⟩ := exec_cases h
  · exact .inl ⟨_, State.complete_result ..⟩
  · cases f with
    | invalidMotorState => exact .inr (State.takeFault_result ..)

/-- Settles O13: no form stops or is refused (`exec_next`), and what it answers carries a byte or the fault. -/
theorem everyAccessEndsInByteOrFault : Obligations.EveryAccessEndsInByteOrFault := by
  intro i s
  obtain ⟨t, ht⟩ := exec_next i s
  exact ⟨t, ht, result_byte_or_fault_of_exec ht⟩

end Sys2Proof.Machine

/-! ### The address of a bus access (20_memory.md R27) -/

namespace Sys2Proof

theorem fieldA_eq_bits (w : AccessWord) :
    fieldA w = BitVec.ofBool (w.getLsbD 11) ++ BitVec.ofBool (w.getLsbD 10) ++ BitVec.ofBool (w.getLsbD 9) ++
      BitVec.ofBool (w.getLsbD 8) := by
  apply BitVec.eq_of_getLsbD_eq
  intro n hn
  simp only [fieldA, BitVec.getLsbD_extractLsb', BitVec.getLsbD_append]
  interval_cases n <;> simp

/-- Each row of the decoder has the index its four bits spell, so the chosen row is the one field `A` names (R42). -/
theorem decodeWord_index (w : AccessWord) : (decodeWord w).index = fieldA w := by
  rw [fieldA_eq_bits]
  unfold decodeWord
  split <;> simp only [*] <;> rfl

@[simp] theorem fieldA_busWord (A : Int) (V : Option Nat) : fieldA (busWord A V) = switchIndex A := by
  cases V <;> exact fieldA_packWord ..

@[simp] theorem decodeAccess_index (A : Int) (V : Option Nat) : (decodeAccess A V).index = switchIndex A :=
  (decodeWord_index _).trans (fieldA_busWord A V)

theorem decodeAccess_congr {A A' : Int} (h : A % 16 = A' % 16) (V : Option Nat) :
    decodeAccess A V = decodeAccess A' V :=
  congrArg decodeWord (busWord_congr h V)

end Sys2Proof

namespace Sys2Proof.Machine

/-- A step with an access pending runs the oldest one, at its own pin levels. -/
theorem step_of_bus_cons {s : State} {c : BusCycle} {rest : List BusCycle} (h : s.bus = c :: rest) :
    step s = exec (decodeAccess c.addr c.value) { s with bus := rest, wp := c.wp } := by
  simp only [step, fetch_cons s c rest h]

/-- Settles O6: field `A` of the access word is the address modulo 16, and the step sees the address only through the
decoded form (`step_of_bus_cons`), which depends on nothing else of it (`decodeAccess_congr`). -/
theorem highAddressBitsAreIgnored : Obligations.HighAddressBitsAreIgnored := by
  refine ⟨fun A V => ?_, fun A A' V wp rest s h => ⟨decodeAccess_congr h V, ?_⟩,
    fun V => ⟨decodeAccess_congr rfl V, decodeAccess_congr rfl V⟩⟩
  · have hpos : 0 ≤ A % 16 := Int.emod_nonneg A (by decide)
    rw [decodeAccess_index, switchIndex_toNat, Int.toNat_of_nonneg hpos]
  · rw [step_of_bus_cons rfl, step_of_bus_cons rfl, decodeAccess_congr h V]

end Sys2Proof.Machine

/-! ### The fields of a word and of a bus access (30_encoding.md R42, R43) -/

namespace Sys2Proof

/-- Field `RW` decides whether the decoded access carries a value, and field `D` is that value (R43). -/
theorem decodeWord_value (w : AccessWord) :
    (decodeWord w).value = if fieldRW w then none else some (fieldD w).toNat := by
  unfold decodeWord fieldRW
  split <;> simp only [*] <;> rfl

/-- The bus hands a supplied value on as its low eight bits, and a read hands on none. -/
theorem decodeAccess_value (A : Int) (V : Option Nat) : (decodeAccess A V).value = V.map (· % 256) := by
  rw [decodeAccess, decodeWord_value]
  cases V <;> simp [busWord]

end Sys2Proof

namespace Sys2Proof.Machine

/-- Settles O5: the fields of a word by `decodeWord_index` and `decodeWord_value`; a bus access has the index O6 gives it and
the value `decodeAccess_value` gives it, which a byte passes unchanged. -/
theorem wordAndBusFieldsGiveIndexAndValue : Obligations.WordAndBusFieldsGiveIndexAndValue := by
  refine ⟨fun w => ⟨decodeWord_index w, decodeWord_value w⟩,
    fun A V => ⟨highAddressBitsAreIgnored.1 A V, ?_⟩, fun A v hv => ?_⟩
  · simp [decodeAccess_value]
  · simp [decodeAccess_value, Nat.mod_eq_of_lt hv]

end Sys2Proof.Machine

/-! ### The data field (30_encoding.md R44) -/

namespace Sys2Proof

/-- `RW` and `A` are the five bits above `D`. -/
theorem fieldRW_eq_high_bit (w : AccessWord) : fieldRW w = (w.extractLsb' 8 5).getLsbD 4 := by
  simp [fieldRW]

theorem fieldA_eq_high_bits (w : AccessWord) : fieldA w = (w.extractLsb' 8 5).extractLsb' 0 4 := by
  apply BitVec.eq_of_getLsbD_eq
  intro n hn
  have hn5 : n < 5 := by omega
  simp [fieldA, hn, hn5]

@[simp] theorem zext8_byte_toNat (b : Byte) : zext8 b.toNat = b := by simp [zext8]

end Sys2Proof

namespace Sys2Proof.Machine

/-- Step 1 is chosen by index and kind: a form acts like the decoded word with the same `RW` and `A` and an empty `D`. -/
theorem switchAction_eq_data_cleared (i : Instr) (wp : WpPins) (c : Controller) :
    switchAction i wp c = switchAction (decodeWord (packWord i.value.isNone i.index 0#8)) wp c := by
  cases i <;> simp only [Instr.value, Instr.index, Option.isNone] <;> rfl

theorem switchAction_congr {i j : Instr} (hindex : i.index = j.index) (hkind : i.value.isNone = j.value.isNone) :
    switchAction i = switchAction j := by
  funext wp c
  rw [switchAction_eq_data_cleared i, switchAction_eq_data_cleared j, hindex, hkind]

/-- A completed write has the latch rule's block and returns `FLOAT_BUS`; step 3 changes nothing (R56). -/
theorem State.complete_write (s : State) (i : SwitchIndex) (x : Nat) (c : Controller) :
    s.complete i (some x) c = { s with ctl := latchRule (some x) c, result := some (.byte Config.floatBus) } := rfl

/-- Two writes to one switch differ at most in the latch, where they differ only if each loaded its whole value. -/
theorem exec_writes_differ_only_in_latch {i j : Instr} {x y : Nat} (hindex : i.index = j.index)
    (hx : i.value = some x) (hy : j.value = some y) (s : State) :
    ∃ t t', exec i s = .next t ∧ exec j s = .next t' ∧
      t' = { t with ctl := { t.ctl with dl := t'.ctl.dl } } ∧
      (t'.ctl.dl = t.ctl.dl ∨ (t.ctl.dl = zext8 x ∧ t'.ctl.dl = zext8 y)) := by
  have haction : switchAction i = switchAction j := switchAction_congr hindex (by simp [hx, hy])
  rw [exec_eq_access, exec_eq_access, hx, hy, hindex, haction]
  cases h : switchAction j s.wp s.ctl with
  | raised f c => exact ⟨_, _, access_raised h, access_raised h, rfl, .inl rfl⟩
  | done c =>
    refine ⟨_, _, access_done h, access_done h, ?_⟩
    simp only [State.complete_write, latchRule_write, true_and]
    by_cases hload : c.motor && c.wm && c.lm
    · exact .inr ⟨if_pos hload, if_pos hload⟩
    · exact .inl (by rw [if_neg hload, if_neg hload])

/-- Settles O47: words that differ in `D` alone have the same `RW` and `A`. If `RW` is 1 they decode to one form; if it is 0
they are two writes to one switch (`exec_writes_differ_only_in_latch`). -/
theorem dataByteNeverSelectsAnOperation : Obligations.DataByteNeverSelectsAnOperation := by
  intro w w' h
  have hrw : fieldRW w = fieldRW w' := by rw [fieldRW_eq_high_bit, fieldRW_eq_high_bit, h]
  have hindex : (decodeWord w).index = (decodeWord w').index := by
    rw [decodeWord_index, decodeWord_index, fieldA_eq_high_bits, fieldA_eq_high_bits, h]
  have hread : fieldRW w = true → decodeWord w = decodeWord w' := fun hr =>
    Instr.eq_of_index_value hindex (by simp [decodeWord_value, ← hrw, hr])
  refine ⟨hindex, by simp [decodeWord_value, hrw], hread, fun s => ?_⟩
  cases hr : fieldRW w with
  | true =>
    obtain ⟨t, ht⟩ := exec_next (decodeWord w) s
    exact ⟨t, t, ht, hread hr ▸ ht, rfl, .inl rfl⟩
  | false =>
    have hvalue : (decodeWord w).value = some (fieldD w).toNat := by simp [decodeWord_value, hr]
    have hvalue' : (decodeWord w').value = some (fieldD w').toNat := by simp [decodeWord_value, ← hrw, hr]
    simpa only [zext8_byte_toNat, fieldD] using exec_writes_differ_only_in_latch hindex hvalue hvalue' s

end Sys2Proof.Machine

/-! ### A read of an even index with the motor on (40_decoder_pipeline.md R54) -/

namespace Sys2Proof.Machine

@[simp] theorem Controller.senseWriteProtect_spin (c : Controller) (wp : WpPins) :
    (c.senseWriteProtect wp).spin = c.spin := by
  unfold Controller.senseWriteProtect; split <;> simp

theorem phaseSwitch_done_spin_dl {i : SwitchIndex} {c c' : Controller} (h : phaseSwitch i c = .done c') :
    c'.spin = c.spin ∧ c'.dl = c.dl := by
  obtain ⟨-, hraised⟩ | ⟨-, -, hstill⟩ | ⟨-, dl, -, hmoved⟩ := phaseSwitch_cases i c
  · cases hraised.symm.trans h
  · cases hstill.symm.trans h; simp
  · cases hmoved.symm.trans h; simp

/-- Step 1 of an access keeps `SPIN`, and `DL` too except in the write-protect sense of `LOADON.R` (R52, R90). -/
theorem switchAction_done_spin_dl {i : Instr} {wp : WpPins} {c c' : Controller} (h : switchAction i wp c = .done c') :
    c'.spin = c.spin ∧ (i ≠ .loadonR → c'.dl = c.dl) := by
  cases i with
  | motoroffR | motoroffW | motoronR | motoronW | drv0selR | drv0selW | drv1selR | drv1selW
  | loadoffR | loadoffW | loadonW | writeoffR | writeoffW | writeonR | writeonW => cases h; exact ⟨rfl, fun _ => rfl⟩
  | loadonR => cases h; simp
  | _ =>
    obtain ⟨hspin, hdl⟩ := phaseSwitch_done_spin_dl h
    exact ⟨hspin, fun _ => hdl⟩

/-- With the motor on, step 3 of a read of an even index returns the latch and changes nothing (R54). -/
theorem State.complete_evenRead_motorOn (s : State) {i : SwitchIndex} {c : Controller} (heven : i.toNat % 2 = 0)
    (hmotor : c.motor = true) : s.complete i none c = { s with ctl := c, result := some (.byte c.dl) } := by
  simp [State.complete, returnState, returnByte, evenIndex_eq, heven, hmotor]

/-- Settles O43: a fault is excluded, so the access completes; step 1 of an even form keeps `SPIN` and `DL`, as `LOADON.R` is
odd (`switchAction_done_spin_dl`), and step 3 returns the latch (`State.complete_evenRead_motorOn`). The read of index 8 is
`MOTOROFF.R`, which clears the motor. -/
theorem evenReadWithMotorOnReturnsTheLatch : Obligations.EvenReadWithMotorOnReturnsTheLatch := by
  intro i s hread heven
  obtain ⟨t, ht⟩ := exec_next i s
  refine ⟨t, ht, fun hmotor hfault => ?_, fun hindex => ?_⟩
  · obtain ⟨c, hdone, rfl⟩ | ⟨f, c, -, rfl⟩ := exec_cases ht
    · have hnotSense : i ≠ .loadonR := by rintro rfl; exact absurd heven (by decide)
      obtain ⟨hspin, hdl⟩ := switchAction_done_spin_dl hdone
      have hc : c.motor = true := by simpa using hmotor
      rw [hread, State.complete_evenRead_motorOn s heven hc]
      exact ⟨rfl, hspin, hdl hnotSense⟩
    · cases f; exact absurd rfl hfault
  · obtain rfl : i = .motoroffR := Instr.eq_of_index_value hindex hread
    cases ht; rfl

end Sys2Proof.Machine

/-! ### The heads after an access (42_stepper_tracker.md R78, R79) -/

namespace Sys2Proof.Machine

/-- The block as step 1 leaves it, whether or not the fault was raised. -/
@[simp] def Switched.block : Switched → Controller
  | .done c => c
  | .raised _ c => c

/-- Steps 2 and 3 and the taking of the fault keep the phase register that step 1 left. -/
theorem exec_ph {i : Instr} {s t : State} (h : exec i s = .next t) :
    t.ctl.ph = (switchAction i s.wp s.ctl).block.ph := by
  obtain ⟨c, hdone, rfl⟩ | ⟨f, c, hraised, rfl⟩ := exec_cases h
  · simp [hdone]
  · simp [hraised]

/-- Steps 2 and 3 and the taking of the fault keep both heads where step 1 left them. -/
theorem exec_pos {i : Instr} {s t : State} (h : exec i s = .next t) (d : Fin 2) :
    t.ctl.pos d = (switchAction i s.wp s.ctl).block.pos d := by
  obtain ⟨c, hdone, rfl⟩ | ⟨f, c, hraised, rfl⟩ := exec_cases h
  · simp [hdone, Controller.pos]
  · simp [hraised]

@[simp] theorem Controller.setPh_pos (c : Controller) (ph : Phases) (d : Fin 2) : (c.setPh ph).pos d = c.pos d := rfl

theorem Controller.setPos_pos (c : Controller) (d e : Fin 2) (x : Nat) :
    (c.setPos d x).pos e = if e = d then x else c.pos e := by
  unfold Controller.pos
  fin_cases d <;> fin_cases e <;> simp

theorem Controller.moveHead_pos (c : Controller) (dl : Int) (d : Fin 2) :
    (c.moveHead dl).pos d = if d = c.drv then clamp ((c.pos d : Int) + dl) else c.pos d := by
  rw [Controller.moveHead, Controller.setPos_pos]
  split
  next h => rw [h]
  next => rfl

@[simp] theorem Controller.senseWriteProtect_pos (c : Controller) (wp : WpPins) (d : Fin 2) :
    (c.senseWriteProtect wp).pos d = c.pos d := by
  unfold Controller.senseWriteProtect; split <;> rfl

/-- A phase switch leaves the selected head where the tracker's answer on the patterns before and after puts it, and the
other head where it was (R60, R78, R79). -/
theorem phaseSwitch_block_pos (i : SwitchIndex) (c : Controller) (d : Fin 2) :
    (phaseSwitch i c).block.pos d =
      if d = c.drv then headAfter (resolve c.ph (phaseSwitch i c).block.ph) (c.pos d) else c.pos d := by
  obtain ⟨hover, hraised⟩ | ⟨-, hstill, hdone⟩ | ⟨-, dl, hmove, hdone⟩ := phaseSwitch_cases i c
  · simp [hraised, headAfter, (resolve_fault_iff _ _).mpr hover]
  · simp [hdone, headAfter, hstill]
  · simp only [hdone, Switched.block, Controller.moveHead_ph, Controller.setPh_ph, hmove, headAfter]
    exact Controller.moveHead_pos ..

/-- The switches with index 8 to 15 never invoke the tracker. -/
theorem switchAction_block_pos {i : Instr} (h : 8 ≤ i.index.toNat) (wp : WpPins) (c : Controller) (d : Fin 2) :
    (switchAction i wp c).block.pos d = c.pos d := by
  cases i with
  | motoroffR | motoroffW | motoronR | motoronW | drv0selR | drv0selW | drv1selR | drv1selW
  | loadoffR | loadoffW | loadonW | writeoffR | writeoffW | writeonR | writeonW => rfl
  | loadonR => exact Controller.senseWriteProtect_pos (c.setLoadMode true) wp d
  | _ => simp [Instr.index] at h

theorem exec_phase_pos {i : Instr} {s t : State} (hphase : i.index.toNat < 8) (h : exec i s = .next t) (d : Fin 2) :
    t.ctl.pos d =
      if d = s.ctl.drv then headAfter (resolve s.ctl.ph t.ctl.ph) (s.ctl.pos d) else s.ctl.pos d := by
  rw [exec_pos h, exec_ph h, switchAction_phase hphase, phaseSwitch_block_pos]

theorem exec_other_pos {i : Instr} {s t : State} (hother : 8 ≤ i.index.toNat) (h : exec i s = .next t) (d : Fin 2) :
    t.ctl.pos d = s.ctl.pos d := by
  rw [exec_pos h, switchAction_block_pos hother]

/-- Strictly inside the range a move is the whole step: the clamp does nothing (R78). -/
theorem headAfter_move_inside {prev cur : Phases} {dl : Int} (h : resolve prev cur = .move dl) {x : Nat}
    (hlow : 0 < x) (hhigh : x < 143) : (headAfter (.move dl) x : Int) = x + dl := by
  have hunit : dl = 1 ∨ dl = -1 := by simpa [h] using resolve_cases prev cur
  rw [headAfter, clamp_inside (by omega) (by omega), Int.toNat_of_nonneg (by omega)]

/-- Settles O25: a form with index 8 to 15 moves no head (`exec_other_pos`); a phase switch moves the selected one as the
tracker resolves (`exec_phase_pos`), by the whole step inside the range (`headAfter_move_inside`). -/
theorem onlyTheSelectedHeadMoves : Obligations.OnlyTheSelectedHeadMoves := by
  intro i s
  obtain ⟨t, ht⟩ := exec_next i s
  refine ⟨t, ht, fun d hd => ?_, fun hother => exec_other_pos hother ht, fun hphase hstill => ?_,
    fun hphase hlow hhigh dl hmove => ?_⟩
  · obtain hphase | hother := Nat.lt_or_ge i.index.toNat 8
    · rw [exec_phase_pos hphase ht, if_neg hd]
    · exact exec_other_pos hother ht d
  · rw [exec_phase_pos hphase ht, if_pos rfl, hstill, headAfter]
  · rw [exec_phase_pos hphase ht, if_pos rfl, hmove, headAfter_move_inside hmove hlow hhigh]

end Sys2Proof.Machine

/-! ### The direction function (42_stepper_tracker.md R76) -/

namespace Sys2Proof.Machine

theorem dir_eq_ite_xor (a b : Nat) :
    dir a b = if (decide (b ≤ a) ^^ decide (1 < ((a : Int) - (b : Int)).natAbs)) then 1 else -1 := by
  unfold dir
  by_cases hfar : 1 < ((a : Int) - (b : Int)).natAbs <;> simp [hfar]

/-- Up is one step forward on the cycle of the four phases: either to the next number, or from 3 around to 0, where the
inversion applies. -/
theorem dir_of_succ_mod {a b : Nat} (hb : b < 4) (h : a = (b + 1) % 4) : dir a b = 1 := by
  rw [dir_eq_ite_xor]
  obtain ⟨rfl, rfl⟩ | rfl : (b = 3 ∧ a = 0) ∨ a = b + 1 := by omega
  · rfl
  · simp

theorem dir_of_pred_mod {a b : Nat} (ha : a < 4) (h : b = (a + 1) % 4) : dir a b = -1 := by
  rw [dir_eq_ite_xor]
  obtain ⟨rfl, rfl⟩ | rfl : (a = 3 ∧ b = 0) ∨ b = a + 1 := by omega
  · rfl
  · simp

/-- Settles O18: the twelve values by evaluation, the law for adjacent phases by `dir_of_succ_mod` and `dir_of_pred_mod`, and
the formula by `dir_eq_ite_xor`. -/
theorem directionFollowsTheFullTable : Obligations.DirectionFollowsTheFullTable :=
  ⟨by decide, fun a b => ⟨dir_of_succ_mod b.isLt, dir_of_pred_mod a.isLt⟩, fun a b _ => dir_eq_ite_xor a b⟩

end Sys2Proof.Machine

/-! ### Resolve by the number of energized phases (42_stepper_tracker.md R73, R74, R75) -/

namespace Sys2Proof.Machine

theorem popcount_single (p : Fin 4) : popcount (1#4 <<< p.val) = 1 := by
  revert p; decide

theorem popcount_pair {p q : Fin 4} (h : p ≠ q) : popcount ((1#4 <<< p.val) ||| (1#4 <<< q.val)) = 2 := by
  revert p q; decide

theorem idx_single (p : Fin 4) : idx (1#4 <<< p.val) = p := by
  revert p; decide

theorem pair_without_first {p q : Fin 4} (h : p ≠ q) :
    ((1#4 <<< p.val) ||| (1#4 <<< q.val)) &&& ~~~(1#4 <<< p.val) = 1#4 <<< q.val := by
  revert p q; decide

theorem resolve_of_none (prev : Phases) : resolve prev 0#4 = .noMove := rfl

theorem resolve_of_one {prev cur : Phases} (h : popcount cur = 1) : resolve prev cur = resolveOne prev cur := by
  simp [resolve, h]

theorem resolve_of_two {prev cur : Phases} (h : popcount cur = 2) : resolve prev cur = resolveTwo prev cur := by
  simp [resolve, h]

/-- The phase `f` left on is the destination, the single other phase `o` of the previous pattern the origin (R74). -/
theorem resolveOne_of_single_rest {prev : Phases} {f o : Fin 4} (h : prev &&& ~~~(1#4 <<< f.val) = 1#4 <<< o.val) :
    resolveOne prev (1#4 <<< f.val) = .move (dir f o) := by
  simp only [resolveOne, h, popcount_single, idx_single, if_true]

/-- The added phase `a` is the destination, the phase `b` that was on alone the origin (R75). -/
theorem resolveTwo_of_added {a b : Fin 4} (h : a ≠ b) :
    resolveTwo (1#4 <<< b.val) ((1#4 <<< b.val) ||| (1#4 <<< a.val)) = .move (dir a b) := by
  simp only [resolveTwo, pair_without_first h.symm, popcount_single, idx_single, if_true]

/-- Settles O19: the number of energized phases chooses the case (`resolve_of_none`, `resolve_of_one`, `resolve_of_two`), and
each case finds its single other phase. -/
theorem resolveOnZeroOneAndTwoPhases : Obligations.ResolveOnZeroOneAndTwoPhases := by
  refine ⟨resolve_of_none, fun prev f o _ hrest => ?_, fun a b hab => ?_⟩
  · rw [resolve_of_one (popcount_single f), resolveOne_of_single_rest hrest]
  · rw [resolve_of_two (popcount_pair hab.symm), resolveTwo_of_added hab]

end Sys2Proof.Machine

/-! ### Track numbers (10_state.md R17, 42_stepper_tracker.md R81) -/

namespace Sys2Proof.Machine

theorem Controller.onWholeTrack_iff (c : Controller) (d : Fin 2) : c.onWholeTrack d = true ↔ c.pos d % 4 = 0 :=
  decide_eq_true_iff

/-- Settles O54: the two values are read off the position and held nowhere, so after any access they are those of the
position it left. -/
theorem trackNumbersFollowThePosition : Obligations.TrackNumbersFollowThePosition := by
  intro i s
  obtain ⟨t, ht⟩ := exec_next i s
  exact ⟨t, ht, fun d => ⟨rfl, t.ctl.onWholeTrack_iff d⟩⟩

end Sys2Proof.Machine

/-! ### The encoding lines of the drive, load-mode and write-mode switches (30_encoding.md R41) -/

namespace Sys2Proof

theorem decode_of_lt {n : Nat} (h : n < 8192) : decode n = .ok (decodeWord (BitVec.ofNat 13 n)) := if_pos h

theorem packWord_write_eq_ofNat {k v : Nat} (hk : k < 16) (hv : v < 256) :
    packWord false (BitVec.ofNat 4 k) (zext8 v) = BitVec.ofNat 13 (0x100 * k + v) := by
  apply BitVec.eq_of_toNat_eq
  simp only [packWord, BitVec.toNat_append, BitVec.toNat_ofNat, zext8_toNat, Nat.mod_eq_of_lt hk, Nat.mod_eq_of_lt hv]
  rw [← Nat.shiftLeft_add_eq_or_of_lt hv, Nat.shiftLeft_eq, Nat.mod_eq_of_lt (by omega)]
  simp [Nat.mul_comm]

/-- The number `0x100 * k + v` is the word of the write of `v` to switch `k`. -/
theorem decode_write {i : Instr} {k v : Nat} (hindex : i.index = BitVec.ofNat 4 k) (hvalue : i.value = some v)
    (hk : k < 16) (hv : v < 256) : decode (0x100 * k + v) = .ok i := by
  rw [decode_of_lt (by omega), ← packWord_write_eq_ofNat hk hv]
  congr 1
  apply Instr.eq_of_index_value
  · rw [decodeWord_index, fieldA_packWord, hindex]
  · simp [decodeWord_value, hvalue, Nat.mod_eq_of_lt hv]

end Sys2Proof

/-! ### Whole next states (43_drive_latch_switches.md R85 to R93): step 1 done, then steps 2 and 3 by the kind of access -/

namespace Sys2Proof.Machine

theorem exec_of_done {i : Instr} {s : State} {c : Controller} (h : switchAction i s.wp s.ctl = .done c) :
    exec i s = .next (s.complete i.index i.value c) := by
  rw [exec_eq_access, access_done h]

/-- A write loads the latch by the rule of step 2 and returns `FLOAT_BUS` (R53, R56). -/
theorem exec_write_of_done {i : Instr} {s : State} {x : Nat} (c : Controller) (hvalue : i.value = some x)
    (hdone : switchAction i s.wp s.ctl = .done c) :
    exec i s = .next { s with
      ctl := { c with dl := if c.motor && c.wm && c.lm then zext8 x else c.dl }
      result := some (.byte Config.floatBus) } := by
  rw [exec_of_done hdone, hvalue, State.complete_write, latchRule_write]

/-- A read of an odd index returns `FLOAT_BUS`; steps 2 and 3 change nothing (R56). -/
theorem exec_oddRead_of_done {i : Instr} {s : State} (c : Controller) (hread : i.value = none)
    (hodd : i.index.toNat % 2 = 1) (hdone : switchAction i s.wp s.ctl = .done c) :
    exec i s = .next { s with ctl := c, result := some (.byte Config.floatBus) } := by
  rw [exec_of_done hdone, hread]
  simp [State.complete, returnState, returnByte, evenIndex_eq, hodd]

/-- A read of an even index returns the latch with the motor on, and with it off inverts `SPIN` and returns the sentinel of
the new value (R54, R55). -/
theorem exec_evenRead_of_done {i : Instr} {s : State} (c : Controller) (hread : i.value = none)
    (heven : i.index.toNat % 2 = 0) (hdone : switchAction i s.wp s.ctl = .done c) :
    exec i s = .next { s with
      ctl := { c with spin := if c.motor then c.spin else !c.spin }
      result := some (.byte (if c.motor then c.dl else spinSentinel (!c.spin))) } := by
  rw [exec_of_done hdone, hread]
  cases hmotor : c.motor with
  | true => simp [State.complete_evenRead_motorOn s heven hmotor, ← hmotor]
  | false => simp [State.complete, returnState, returnByte, evenIndex_eq, heven, hmotor, Controller.toggleSpin]

/-- Settles O31: with the motor now off an even read returns a sentinel, and the latch rule loads nothing. -/
theorem motorOffClearsTheMotorAndReturnsASentinel : Obligations.MotorOffClearsTheMotorAndReturnsASentinel :=
  ⟨rfl, fun _ => decode_write (k := 8) rfl rfl (by decide),
    fun s => exec_evenRead_of_done (s.ctl.setMotor false) rfl rfl rfl,
    fun _ s => exec_write_of_done (s.ctl.setMotor false) rfl rfl⟩

/-- Settles O32: index 9 is odd, and with the motor now on the latch rule tests `WM` and `LM`. -/
theorem motorOnSetsTheMotorAndMayLoadTheLatch : Obligations.MotorOnSetsTheMotorAndMayLoadTheLatch :=
  ⟨rfl, fun _ => decode_write (k := 9) rfl rfl (by decide),
    fun s => exec_oddRead_of_done (s.ctl.setMotor true) rfl rfl rfl,
    fun _ s => exec_write_of_done (s.ctl.setMotor true) rfl rfl⟩

/-- Settles O33: drive selection leaves all that steps 2 and 3 test. -/
theorem driveZeroSelect : Obligations.DriveZeroSelect :=
  ⟨rfl, fun _ => decode_write (k := 10) rfl rfl (by decide),
    fun s => exec_evenRead_of_done (s.ctl.selectDrive 0) rfl rfl rfl,
    fun _ s => exec_write_of_done (s.ctl.selectDrive 0) rfl rfl⟩

/-- Settles O37: step 1 of the write form has no sense, and with `LM` now 1 the latch rule tests `MOTOR` and `WM`. -/
theorem loadOnWriteNeverSenses : Obligations.LoadOnWriteNeverSenses := by
  refine ⟨fun _ => decode_write (k := 13) rfl rfl (by decide), fun v s => ?_⟩
  rw [exec_write_of_done (s.ctl.setLoadMode true) rfl rfl, Controller.setLoadMode_lm, Bool.and_true]
  rfl

/-- Settles O38: with `WM` now 0 the latch rule loads nothing, and index 14 is even. -/
theorem writeOffClearsWriteMode : Obligations.WriteOffClearsWriteMode := by
  refine ⟨rfl, fun _ => decode_write (k := 14) rfl rfl (by decide),
    fun s => exec_evenRead_of_done (s.ctl.setWriteMode false) rfl rfl rfl,
    fun v s => ?_⟩
  rw [exec_write_of_done (s.ctl.setWriteMode false) rfl rfl, Controller.setWriteMode_wm, Bool.and_false]
  rfl

end Sys2Proof.Machine

/-! ### The write-protect sense (43_drive_latch_switches.md R90, R99) -/

namespace Sys2Proof.Machine

theorem sensedLatch_eq_or (dl : Byte) (level : Bool) :
    sensedLatch dl level = (dl &&& 0x7F#8) ||| (if level = true then 0x80#8 else 0x00#8) := by
  cases level <;> rfl

/-- The sense writes the latch alone, and looks at `MOTOR`, `WM`, `DL`, `DRV` and the pins (R90). -/
theorem Controller.senseWriteProtect_eq (c : Controller) (wp : WpPins) :
    c.senseWriteProtect wp =
      { c with dl := if c.motor && !c.wm then sensedLatch c.dl (wp.level c.drv) else c.dl } := by
  unfold Controller.senseWriteProtect Controller.writeLatch isWriteProtected
  split <;> simp

/-- A sense that fires replaces bit 7 of the latch and keeps bits 6:0 (R90, R98). -/
theorem Controller.senseWriteProtect_bit {c : Controller} (wp : WpPins) (hmotor : c.motor = true) (hwm : c.wm = false)
    (n : Fin 8) :
    (c.senseWriteProtect wp).dl.getLsbD n = if n = 7 then wp.level c.drv else c.dl.getLsbD n := by
  rw [Controller.senseWriteProtect_eq]
  simpa [hmotor, hwm] using sensedLatch_bit c.dl (wp.level c.drv) n

theorem exec_loadonR (s : State) : exec .loadonR s = .next { s with
    ctl := { s.ctl with
      lm := true
      dl := if s.ctl.motor && !s.ctl.wm then sensedLatch s.ctl.dl (s.wp.level s.ctl.drv) else s.ctl.dl }
    result := some (.byte Config.floatBus) } := by
  rw [exec_oddRead_of_done ((s.ctl.setLoadMode true).senseWriteProtect s.wp) rfl rfl rfl, Controller.senseWriteProtect_eq]
  rfl

/-- The latch after a sense that fires has the selected drive's level in bit 7 (R90). -/
theorem exec_loadonR_bit_seven {s t : State} (h : exec .loadonR s = .next t) (hmotor : s.ctl.motor = true)
    (hwm : s.ctl.wm = false) : t.ctl.dl.getLsbD 7 = s.wp.level s.ctl.drv := by
  cases (exec_loadonR s).symm.trans h
  simpa [hmotor, hwm] using sensedLatch_bit s.ctl.dl (s.wp.level s.ctl.drv) 7

/-- Settles O46: the latch that `exec_loadonR` gives does not mention the phase register, and its bit 7 is the selected
drive's level. -/
theorem senseTestsWriteProtectOfTheSelectedDriveAlone : Obligations.SenseTestsWriteProtectOfTheSelectedDriveAlone :=
  fun s _ => ⟨_, _, exec_loadonR s, exec_loadonR _, rfl, exec_loadonR_bit_seven (exec_loadonR s)⟩

/-- Settles O36: the new latch is the sensed one, with bits 6:0 kept by the mask. -/
theorem loadOnReadSensesWriteProtect : Obligations.LoadOnReadSensesWriteProtect := by
  refine ⟨rfl, fun s => ?_⟩
  rw [exec_loadonR, sensedLatch_eq_or]
  rfl

/-- Settles O39: step 1 sets `WM` without looking at the pins; with it set the latch rule tests `MOTOR` and `LM`, and the
sense does not fire. -/
theorem writeOnSetsWriteModeWhateverTheWriteProtect : Obligations.WriteOnSetsWriteModeWhateverTheWriteProtect := by
  refine ⟨rfl, fun _ => decode_write (k := 15) rfl rfl (by decide),
    fun s => exec_oddRead_of_done (s.ctl.setWriteMode true) rfl rfl rfl,
    fun v s => ?_, fun s hwm => ⟨_, exec_loadonR s, ?_⟩⟩
  · rw [exec_write_of_done (s.ctl.setWriteMode true) rfl rfl, Controller.setWriteMode_wm, Bool.and_true]
    rfl
  · simp [hwm]

end Sys2Proof.Machine

/-! ### Drive selection (43_drive_latch_switches.md R88, R95) -/

namespace Sys2Proof.Machine

@[simp] theorem Controller.senseWriteProtect_drv (c : Controller) (wp : WpPins) :
    (c.senseWriteProtect wp).drv = c.drv := by
  rw [Controller.senseWriteProtect_eq]

/-- Faulting or not, a phase switch leaves its own flag written and the other three as they were (R60, R102). -/
theorem phaseSwitch_block_ph (i : SwitchIndex) (c : Controller) :
    (phaseSwitch i c).block.ph = setPhase c.ph (phaseNumber i) (switchValue i) := by
  obtain ⟨-, hraised⟩ | ⟨-, -, hdone⟩ | ⟨-, dl, -, hdone⟩ := phaseSwitch_cases i c
  · simp [hraised]
  · simp [hdone]
  · simp [hdone]

theorem phaseSwitch_block_drv (i : SwitchIndex) (c : Controller) : (phaseSwitch i c).block.drv = c.drv := by
  obtain ⟨-, hraised⟩ | ⟨-, -, hdone⟩ | ⟨-, dl, -, hdone⟩ := phaseSwitch_cases i c
  · simp [hraised]
  · simp [hdone]
  · simp [hdone]

theorem exec_phase_ph {i : Instr} {s t : State} (hphase : i.index.toNat < 8) (h : exec i s = .next t) :
    t.ctl.ph = setPhase s.ctl.ph (phaseNumber i.index) (switchValue i.index) := by
  rw [exec_ph h, switchAction_phase hphase, phaseSwitch_block_ph]

/-- With phase 0 on alone, switching phase 1 on moves the selected head up one (R75, R78). -/
theorem exec_ph1onR_pos_of_phase_zero {s t : State} (h : exec .ph1onR s = .next t) (hph : s.ctl.ph = 1#4)
    (hroom : s.ctl.pos s.ctl.drv < 143) : t.ctl.pos s.ctl.drv = s.ctl.pos s.ctl.drv + 1 := by
  have hmove : resolve s.ctl.ph t.ctl.ph = .move 1 := by
    rw [exec_phase_ph (by decide) h, hph]; decide
  rw [exec_phase_pos (by decide) h, if_pos rfl, hmove, headAfter, clamp_inside (by omega) (by omega)]
  omega

/-- Settles O34: the equations of the two forms as for drive 0; the sense by `exec_loadonR_bit_seven`, the heads by O25 and
`exec_ph1onR_pos_of_phase_zero`. -/
theorem driveOneSelect : Obligations.DriveOneSelect := by
  refine ⟨rfl, fun _ => decode_write (k := 11) rfl rfl (by decide),
    fun s => exec_oddRead_of_done (s.ctl.selectDrive 1) rfl rfl rfl,
    fun _ s => exec_write_of_done (s.ctl.selectDrive 1) rfl rfl,
    fun s hdrv hmotor hwm => ⟨_, exec_loadonR s, ?_⟩, fun i s hdrv => ?_,
    fun s hdrv hph hroom => ?_⟩
  · rw [exec_loadonR_bit_seven (exec_loadonR s) hmotor hwm, hdrv]
    rfl
  · obtain ⟨t, ht, hstill, -⟩ := onlyTheSelectedHeadMoves i s
    exact ⟨t, ht, hstill 0 (by simp [hdrv])⟩
  · obtain ⟨t, ht⟩ := exec_next .ph1onR s
    have hmoved := exec_ph1onR_pos_of_phase_zero ht hph
    rw [hdrv] at hmoved
    exact ⟨t, ht, hmoved hroom⟩

/-- Step 1 writes `DRV` at indices 10 and 11 alone (R52, R95). -/
theorem switchAction_block_drv (i : Instr) (wp : WpPins) (c : Controller) :
    (switchAction i wp c).block.drv = if i.index = 10#4 then 0 else if i.index = 11#4 then 1 else c.drv := by
  cases i with
  | motoroffR | motoroffW | motoronR | motoronW | drv0selR | drv0selW | drv1selR | drv1selW
  | loadoffR | loadoffW | loadonW | writeoffR | writeoffW | writeonR | writeonW => rfl
  | loadonR => exact Controller.senseWriteProtect_drv (c.setLoadMode true) wp
  | _ => exact phaseSwitch_block_drv _ c

/-- Steps 2 and 3 and the taking of the fault keep the drive that step 1 left selected. -/
theorem exec_drv {i : Instr} {s t : State} (h : exec i s = .next t) :
    t.ctl.drv = (switchAction i s.wp s.ctl).block.drv := by
  obtain ⟨c, hdone, rfl⟩ | ⟨f, c, hraised, rfl⟩ := exec_cases h
  · simp [hdone]
  · simp [hraised]

theorem Controller.selectDrive_of_one_lt (c : Controller) {n : Nat} (h : 1 < n) : c.selectDrive n = c :=
  dif_neg (by omega)

/-- Settles O40: the guard by `Controller.selectDrive_of_one_lt`, its use by `switchAction_block_drv`, the truncation by
`zext8_toNat`, and its two uses by the latch rule and `Controller.senseWriteProtect_bit`. -/
theorem unitOperationsGuardAndTruncate : Obligations.UnitOperationsGuardAndTruncate := by
  refine ⟨fun c => ⟨rfl, rfl, fun n hn => c.selectDrive_of_one_lt hn⟩, fun i s => ?_,
    fun c v => ⟨zext8_toNat v, rfl⟩, fun c => rfl, fun c v hmotor hwm hlm => ?_,
    fun c wp hmotor hwm n => Controller.senseWriteProtect_bit wp hmotor hwm n⟩
  · obtain ⟨t, ht⟩ := exec_next i s
    exact ⟨t, ht, (exec_drv ht).trans (switchAction_block_drv i s.wp s.ctl)⟩
  · simp [latchRule, hmotor, hwm, hlm]

end Sys2Proof.Machine

/-! ### Words and access forms (30_encoding.md R41 to R48) -/

namespace Sys2Proof

theorem Instr.wellFormed_iff (i : Instr) : i.WellFormed ↔ ∀ v, i.value = some v → v < 256 := by
  unfold Instr.WellFormed Instr.wellFormed
  cases i.value <;> simp

theorem decodeWord_wellFormed (w : AccessWord) : (decodeWord w).WellFormed := by
  rw [Instr.wellFormed_iff, decodeWord_value]
  intro v hv
  split at hv
  next => cases hv
  next => cases hv; exact (fieldD w).isLt

/-- The canonical word spells the index and the kind, and a byte passes field `D` unchanged, so the decoded form has the
index and the value of the encoded one. -/
theorem decodeWord_encode {i : Instr} (h : i.WellFormed) : decodeWord (encode i) = i := by
  apply Instr.eq_of_index_value
  · rw [decodeWord_index, encode_eq_packWord, fieldA_packWord]
  · rw [decodeWord_value, encode_eq_packWord, fieldRW_packWord, fieldD_packWord]
    cases hv : i.value with
    | none => rfl
    | some v => simp [Nat.mod_eq_of_lt ((i.wellFormed_iff.mp h) v hv)]

theorem decode_toNat (w : AccessWord) : decode w.toNat = .ok (decodeWord w) := by
  rw [decode_of_lt w.isLt, BitVec.ofNat_toNat, BitVec.setWidth_eq]

/-- Settles O1: every word decodes by `decodeWord` (`decode_toNat`), which inverts `encode` on well-formed forms. -/
theorem decodeOfEncodeIsIdentity : Obligations.DecodeOfEncodeIsIdentity := by
  intro i hi
  rw [decode_toNat, decodeWord_encode hi]

/-- A word is its three fields. -/
theorem packWord_fields (w : AccessWord) : packWord (fieldRW w) (fieldA w) (fieldD w) = w := by
  apply BitVec.eq_of_getLsbD_eq
  intro n hn
  simp only [packWord, fieldRW, fieldA, fieldD, BitVec.getLsbD_append, BitVec.getLsbD_extractLsb']
  interval_cases n <;> simp

/-- The mask of a read keeps `RW` and `A` and clears `D`. -/
theorem packWord_data_cleared (w : AccessWord) : packWord (fieldRW w) (fieldA w) 0#8 = w &&& 0x1F00#13 := by
  apply BitVec.eq_of_getLsbD_eq
  intro n hn
  simp only [packWord, fieldRW, fieldA, BitVec.getLsbD_append, BitVec.getLsbD_extractLsb', BitVec.getLsbD_and]
  interval_cases n <;> simp

theorem encode_decodeWord (w : AccessWord) :
    encode (decodeWord w) = packWord (fieldRW w) (fieldA w) (if fieldRW w then 0#8 else fieldD w) := by
  rw [encode_eq_packWord, decodeWord_index, decodeWord_value]
  cases fieldRW w with
  | true => rfl
  | false => simp

/-- Settles O2: the canonical word has the fields of the word itself, with `D` cleared on a read. -/
theorem encodeOfDecodeIsCanonicalWord : Obligations.EncodeOfDecodeIsCanonicalWord := by
  intro w
  refine ⟨decodeWord_wellFormed w, ?_⟩
  rw [encode_decodeWord]
  by_cases hread : fieldRW w = true
  · rw [if_pos hread, packWord_data_cleared]
    exact (if_pos hread).symm
  · rw [if_neg hread, packWord_fields]
    exact (if_neg hread).symm

/-- Settles O3: below 8192 the number is a word, and every word decodes to a well-formed form. -/
theorem everyAccessWordDecodesAndNothingElse : Obligations.EveryAccessWordDecodesAndNothingElse :=
  fun _ => ⟨fun h => ⟨_, decode_of_lt h, decodeWord_wellFormed _⟩, fun h => if_neg (by omega)⟩

/-- Settles O4: each number is the canonical word of the form it stands for, so O1 decodes it. -/
theorem writtenOutWordsDecode : Obligations.WrittenOutWordsDecode := by
  have h := decodeOfEncodeIsIdentity
  exact ⟨h .ph0offR rfl, h .ph1onR rfl, h (.ph3onW 0x22) rfl, h .motoroffR rfl, h (.motoronW 0x22) rfl, h .drv0selR rfl,
    h (.drv1selW 0x77) rfl, h .loadonR rfl, h (.loadonW 0xD5) rfl, h (.loadoffW 0x33) rfl, h .writeoffR rfl,
    h (.writeonW 0x66) rfl⟩

theorem ioBase_mod_sixteen : Config.ioBase % 16 = 0 := Int.mul_emod_right 16 _

theorem switchIndex_toNat_cast (i : SwitchIndex) : switchIndex (i.toNat : Int) = i := by
  apply BitVec.eq_of_toNat_eq
  rw [switchIndex_toNat]
  omega

/-- Settles O7: adding a multiple of 16 leaves the low four address bits, which is all that the decoder looks at. -/
theorem windowBaseIsMultipleOfSixteen : Obligations.WindowBaseIsMultipleOfSixteen := by
  refine ⟨ioBase_mod_sixteen, fun i V => ?_⟩
  have hbase : decodeAccess (Config.ioBase + (i.toNat : Int)) V = decodeAccess (i.toNat : Int) V :=
    decodeAccess_congr (by have := ioBase_mod_sixteen; omega) V
  exact ⟨hbase, by rw [hbase, decodeAccess_index, switchIndex_toNat_cast]⟩

end Sys2Proof

/-! ### The queue of accesses (00_scope.md R2, R3) -/

namespace Sys2Proof.Machine

/-- Settles O9: the step law that O6 rests on. -/
theorem stepRunsOldestPendingAccess : Obligations.StepRunsOldestPendingAccess := fun _ _ _ h => step_of_bus_cons h

theorem step_of_bus_empty {s : State} (h : s.bus = []) : step s = .next s := by
  simp only [step, fetch_empty s h, State.idle]

/-- Settles O10: an empty queue fetches nothing, and the idle step answers the state it was given. -/
theorem stepWithNoAccessPendingChangesNothing : Obligations.StepWithNoAccessPendingChangesNothing :=
  fun _ h => step_of_bus_empty h

theorem switchIndex_cycleOfWord (w : AccessWord) (wp : WpPins) : switchIndex (cycleOfWord w wp).addr = fieldA w :=
  switchIndex_toNat_cast _

/-- The bus cycle of a word is decoded to what the word itself decodes to. -/
theorem decodeAccess_cycleOfWord (w : AccessWord) (wp : WpPins) :
    decodeAccess (cycleOfWord w wp).addr (cycleOfWord w wp).value = decodeWord w := by
  apply Instr.eq_of_index_value
  · rw [decodeAccess_index, switchIndex_cycleOfWord, decodeWord_index]
  · rw [decodeAccess_value, decodeWord_value, cycleOfWord]
    cases fieldRW w with
    | true => rfl
    | false => exact congrArg some (Nat.mod_eq_of_lt (fieldD w).isLt)

theorem placeWord_of_lt (s : State) {n : Nat} (h : n < 8192) :
    s.placeWord n = { s with bus := cycleOfWord (BitVec.ofNat 13 n) s.wp :: s.bus } := by
  simp only [State.placeWord, decode_of_lt h]

/-- Settles O11: the placed cycle is the oldest one, carries the pin levels `s` has, and is decoded as its word is. -/
theorem placedWordIsTheNextAccessRun : Obligations.PlacedWordIsTheNextAccessRun := by
  intro s w hw
  have hmod : w % 2 ^ 16 = w := Nat.mod_eq_of_lt (by omega)
  refine ⟨decodeWord (BitVec.ofNat 13 w), by simp only [decodeTableWord, hmod, decode_of_lt hw], ?_⟩
  rw [State.withFetchWord, hmod, placeWord_of_lt s hw, step_of_bus_cons rfl, decodeAccess_cycleOfWord]
  rfl

end Sys2Proof.Machine

/-! ### The head range (10_state.md R25) -/

namespace Sys2Proof.Machine

theorem headAfter_le {m : Motion} {x : Nat} (h : x ≤ Config.posMax) : headAfter m x ≤ Config.posMax := by
  cases m with
  | move dl => exact clamp_le _
  | noMove | fault => exact h

theorem Controller.headsInRange_iff (c : Controller) : c.HeadsInRange ↔ ∀ d, c.pos d ≤ Config.posMax :=
  (Fin.forall_fin_two (p := fun d => c.pos d ≤ Config.posMax)).symm

/-- An access leaves a head where it was or where the tracker puts it, and the tracker never leaves the range. -/
theorem exec_keeps_inv {i : Instr} {s t : State} (h : exec i s = .next t) (hs : s.Inv) : t.Inv := by
  rw [State.Inv, Controller.headsInRange_iff] at hs ⊢
  intro d
  obtain hphase | hother := Nat.lt_or_ge i.index.toNat 8
  · rw [exec_phase_pos hphase h]
    split
    · exact headAfter_le (hs d)
    · exact hs d
  · rw [exec_other_pos hother h]
    exact hs d

/-- Settles O50: a step is an access or changes nothing, and each keeps the invariant. -/
theorem everyStepKeepsTheHeadsInRange : Obligations.EveryStepKeepsTheHeadsInRange := by
  intro s hs
  cases hbus : s.bus with
  | nil => exact ⟨s, step_of_bus_empty hbus, hs⟩
  | cons c rest =>
    obtain ⟨t, ht⟩ := exec_next (decodeAccess c.addr c.value) { s with bus := rest, wp := c.wp }
    exact ⟨t, (step_of_bus_cons hbus).trans ht, exec_keeps_inv ht hs⟩

/-- Settles O51: both heads start at `POS_MIN`. -/
theorem resetStateHasHeadsInRange : Obligations.ResetStateHasHeadsInRange := ⟨Nat.zero_le _, Nat.zero_le _⟩

/-- Settles O52: the reset state is written out in full. -/
theorem resetIsAllZero : Obligations.ResetIsAllZero :=
  ⟨rfl, rfl, rfl, rfl, rfl, rfl, rfl, rfl, rfl, rfl, rfl, rfl, rfl, rfl, rfl⟩

/-- Settles O55: the selected drive is the one `DRV` names. -/
theorem exactlyOneDriveIsSelected : Obligations.ExactlyOneDriveIsSelected :=
  fun c => ⟨c.drv, decide_eq_true rfl, fun _ he => (of_decide_eq_true he).symm⟩

end Sys2Proof.Machine

/-! ### Resolve without a single other phase (42_stepper_tracker.md R77) -/

namespace Sys2Proof.Machine

theorem resolve_of_one_noMove {prev cur : Phases} (hcur : popcount cur = 1) (hrest : popcount (prev &&& ~~~cur) ≠ 1) :
    resolve prev cur = .noMove := by
  rw [resolve_of_one hcur]
  exact if_neg hrest

theorem resolve_of_two_noMove {prev cur : Phases} (hcur : popcount cur = 2)
    (hother : popcount prev ≠ 1 ∨ popcount (cur &&& ~~~prev) ≠ 1) : resolve prev cur = .noMove := by
  rw [resolve_of_two hcur, resolveTwo]
  obtain hprev | hadded := hother
  · exact if_neg hprev
  · rw [if_neg hadded, ite_self]

/-- Settles O20: each case of `resolve` moves only in its inner test, which the hypotheses exclude. -/
theorem resolveWithoutASingleOtherPhaseMovesNothing : Obligations.ResolveWithoutASingleOtherPhaseMovesNothing :=
  fun prev cur => ⟨resolve_fault_iff prev cur, resolve_of_one_noMove, resolve_of_two_noMove⟩

end Sys2Proof.Machine

/-! ### A phase switch (41_phase_switches.md R60): the pattern it leaves, and the block with the selected head moved -/

namespace Sys2Proof.Machine

/-- The phase pattern that switch `i` leaves, of the pattern before it. -/
def writtenPhases (i : SwitchIndex) (ph : Phases) : Phases := setPhase ph (phaseNumber i) (switchValue i)

theorem writtenPhases_eq (i : SwitchIndex) (ph : Phases) :
    writtenPhases i ph = setPhase ph (i.toNat / 2) (decide (i.toNat % 2 = 1)) := by
  rw [writtenPhases, phaseNumber_eq, switchValue_eq]

/-- The block with `cur` in the phase register and the selected head where the tracker puts it. -/
def Controller.track (c : Controller) (cur : Phases) : Controller :=
  { c with
    ph := cur
    pos0 := if c.drv = 0 then headAfter (resolve c.ph cur) c.pos0 else c.pos0
    pos1 := if c.drv = 0 then c.pos1 else headAfter (resolve c.ph cur) c.pos1 }

theorem Controller.track_of_still {c : Controller} {cur : Phases} (h : ∀ x, headAfter (resolve c.ph cur) x = x) :
    c.track cur = c.setPh cur := by
  simp [Controller.track, Controller.setPh, h]

theorem Controller.track_of_move {c : Controller} {cur : Phases} {dl : Int} (h : resolve c.ph cur = .move dl) :
    c.track cur = (c.setPh cur).moveHead dl := by
  unfold Controller.track Controller.moveHead Controller.setPos Controller.pos
  by_cases hdrv : c.drv = 0 <;> simp [Controller.setPh, hdrv, h, headAfter]

theorem phaseSwitch_of_over {i : SwitchIndex} {c : Controller} (h : 2 < popcount (writtenPhases i c.ph)) :
    phaseSwitch i c = .raised .invalidMotorState (c.setPh (writtenPhases i c.ph)) := by
  simp only [writtenPhases] at h ⊢
  obtain ⟨-, hraised⟩ | ⟨hle, -⟩ | ⟨hle, -⟩ := phaseSwitch_cases i c
  · exact hraised
  · omega
  · omega

theorem phaseSwitch_of_le {i : SwitchIndex} {c : Controller} (h : popcount (writtenPhases i c.ph) ≤ 2) :
    phaseSwitch i c = .done (c.track (writtenPhases i c.ph)) := by
  simp only [writtenPhases] at h ⊢
  obtain ⟨hover, -⟩ | ⟨-, hstill, hdone⟩ | ⟨-, dl, hmove, hdone⟩ := phaseSwitch_cases i c
  · omega
  · rw [hdone, Controller.track_of_still fun x => by rw [hstill, headAfter]]
  · rw [hdone, Controller.track_of_move hmove]

theorem exec_phase_writtenPhases {i : Instr} {s t : State} (hphase : i.index.toNat < 8) (h : exec i s = .next t) :
    t.ctl.ph = writtenPhases i.index s.ctl.ph := exec_phase_ph hphase h

end Sys2Proof.Machine

/-! ### The fault (60_exceptions.md R101, R102, R107, R108) -/

namespace Sys2Proof.Machine

theorem State.takeFault_faulted {s : State} {f : Fault} {c : Controller} : (s.takeFault f c).Faulted := by
  cases f with
  | invalidMotorState => rfl

theorem State.complete_not_faulted {s : State} {i : SwitchIndex} {v : Option Nat} {c : Controller} :
    ¬ (s.complete i v c).Faulted := by
  simp [State.Faulted]

/-- The switches with index 8 to 15 raise nothing. -/
theorem switchAction_other_done {i : Instr} (h : 8 ≤ i.index.toNat) (wp : WpPins) (c : Controller) :
    ∃ c', switchAction i wp c = .done c' := by
  cases i with
  | motoroffR | motoroffW | motoronR | motoronW | drv0selR | drv0selW | drv1selR | drv1selW
  | loadoffR | loadoffW | loadonR | loadonW | writeoffR | writeoffW | writeonR | writeonW => exact ⟨_, rfl⟩
  | _ => simp [Instr.index] at h

theorem exec_phase_of_over {i : Instr} {s : State} (hphase : i.index.toNat < 8)
    (hover : 2 < popcount (writtenPhases i.index s.ctl.ph)) :
    exec i s = .next (s.takeFault .invalidMotorState (s.ctl.setPh (writtenPhases i.index s.ctl.ph))) := by
  rw [exec_eq_access, access_raised ((switchAction_phase hphase s.wp s.ctl).trans (phaseSwitch_of_over hover))]

theorem exec_phase_of_le {i : Instr} {s : State} (hphase : i.index.toNat < 8)
    (hle : popcount (writtenPhases i.index s.ctl.ph) ≤ 2) :
    exec i s = .next (s.complete i.index i.value (s.ctl.track (writtenPhases i.index s.ctl.ph))) :=
  exec_of_done ((switchAction_phase hphase s.wp s.ctl).trans (phaseSwitch_of_le hle))

theorem exec_phase_faulted_iff {i : Instr} {s t : State} (hphase : i.index.toNat < 8) (h : exec i s = .next t) :
    t.Faulted ↔ 2 < popcount (writtenPhases i.index s.ctl.ph) := by
  obtain hover | hle := Nat.lt_or_ge 2 (popcount (writtenPhases i.index s.ctl.ph))
  · cases (exec_phase_of_over hphase hover).symm.trans h
    exact iff_of_true State.takeFault_faulted hover
  · cases (exec_phase_of_le hphase hle).symm.trans h
    exact iff_of_false State.complete_not_faulted (by omega)

theorem exec_other_not_faulted {i : Instr} {s t : State} (hother : 8 ≤ i.index.toNat) (h : exec i s = .next t) :
    ¬ t.Faulted := by
  obtain ⟨c, hdone⟩ := switchAction_other_done hother s.wp s.ctl
  cases (exec_of_done hdone).symm.trans h
  exact State.complete_not_faulted

theorem exec_faulted_iff {i : Instr} {s t : State} (h : exec i s = .next t) :
    t.Faulted ↔ i.index.toNat < 8 ∧ 2 < popcount (writtenPhases i.index s.ctl.ph) := by
  obtain hphase | hother := Nat.lt_or_ge i.index.toNat 8
  · rw [exec_phase_faulted_iff hphase h, and_iff_right hphase]
  · exact iff_of_false (exec_other_not_faulted hother h) (by omega)

/-- Settles O14: `exec_faulted_iff`, with the pattern written out. -/
theorem onlyPhaseSwitchesFaultAndOnlyAboveTwoPhases : Obligations.OnlyPhaseSwitchesFaultAndOnlyAboveTwoPhases := by
  intro i s
  obtain ⟨t, ht⟩ := exec_next i s
  exact ⟨t, ht, by rw [exec_faulted_iff ht, writtenPhases_eq]⟩

/-- Settles O15: the fault is taken on the block with the pattern written and no head moved. -/
theorem faultKeepsThePhaseWriteAndNothingElse : Obligations.FaultKeepsThePhaseWriteAndNothingElse := by
  intro i s hphase hover
  rw [← writtenPhases_eq] at hover ⊢
  rw [exec_phase_of_over hphase hover, ← busAfterFault_eq]
  rfl

theorem access_with_result (i : SwitchIndex) (v : Option Nat) (action : Controller → Switched) (s : State)
    (r : Option AccessResult) : access i v action { s with result := r } = access i v action s := by
  unfold access
  cases action s.ctl with
  | done c => rfl
  | raised f c => rfl

/-- Settles O16: the three steps look at the block and the pins, and every access writes the result anew. -/
theorem noRecordOfEarlierResults : Obligations.NoRecordOfEarlierResults := by
  intro i s r
  rw [exec_eq_access, exec_eq_access, access_with_result]

/-- Settles O49: completing an access writes the block and the result; taking the fault writes the trace besides. -/
theorem accessesNeverDriveThePinsOrTheHostsTrace : Obligations.AccessesNeverDriveThePinsOrTheHostsTrace := by
  intro i s
  obtain ⟨t, ht⟩ := exec_next i s
  refine ⟨t, ht, ?_⟩
  obtain ⟨c, -, rfl⟩ | ⟨f, c, -, rfl⟩ := exec_cases ht
  · exact ⟨rfl, fun _ => rfl, fun hfault => absurd hfault State.complete_not_faulted⟩
  · exact ⟨rfl, fun hfault => absurd State.takeFault_faulted hfault, fun _ => busAfterFault_eq s.bus⟩

end Sys2Proof.Machine

/-! ### The phase forms by number (41_phase_switches.md R61 to R68, section 4) -/

namespace Sys2Proof.Machine

theorem phaseOff_index {p : Fin 4} {v : Nat} {i : Instr} (h : i = phaseOffRead p ∨ i = phaseOffWrite p v) :
    i.index = BitVec.ofNat 4 (2 * p.val) := by
  obtain rfl | rfl := h
  · revert p; decide
  · fin_cases p <;> rfl

theorem phaseOn_index {p : Fin 4} {v : Nat} {i : Instr} (h : i = phaseOnRead p ∨ i = phaseOnWrite p v) :
    i.index = BitVec.ofNat 4 (2 * p.val + 1) := by
  obtain rfl | rfl := h
  · revert p; decide
  · fin_cases p <;> rfl

theorem phaseOffRead_value (p : Fin 4) : (phaseOffRead p).value = none := by revert p; decide
theorem phaseOnRead_value (p : Fin 4) : (phaseOnRead p).value = none := by revert p; decide
theorem phaseOffWrite_value (p : Fin 4) (v : Nat) : (phaseOffWrite p v).value = some v := by fin_cases p <;> rfl
theorem phaseOnWrite_value (p : Fin 4) (v : Nat) : (phaseOnWrite p v).value = some v := by fin_cases p <;> rfl

theorem phaseOff_index_toNat {p : Fin 4} {v : Nat} {i : Instr} (h : i = phaseOffRead p ∨ i = phaseOffWrite p v) :
    i.index.toNat = 2 * p.val := by
  rw [phaseOff_index h, BitVec.toNat_ofNat]; omega

theorem phaseOn_index_toNat {p : Fin 4} {v : Nat} {i : Instr} (h : i = phaseOnRead p ∨ i = phaseOnWrite p v) :
    i.index.toNat = 2 * p.val + 1 := by
  rw [phaseOn_index h, BitVec.toNat_ofNat]; omega

theorem phaseOff_isPhase {p : Fin 4} {v : Nat} {i : Instr} (h : i = phaseOffRead p ∨ i = phaseOffWrite p v) :
    i.index.toNat < 8 := by
  rw [phaseOff_index_toNat h]; omega

theorem phaseOn_isPhase {p : Fin 4} {v : Nat} {i : Instr} (h : i = phaseOnRead p ∨ i = phaseOnWrite p v) :
    i.index.toNat < 8 := by
  rw [phaseOn_index_toNat h]; omega

theorem writtenPhases_off {p : Fin 4} {v : Nat} {i : Instr} (h : i = phaseOffRead p ∨ i = phaseOffWrite p v)
    (ph : Phases) : writtenPhases i.index ph = ph &&& ~~~(1#4 <<< p.val) := by
  have hp : 2 * p.val / 2 = p.val := by omega
  simp [writtenPhases_eq, phaseOff_index_toNat h, hp, setPhase, onlyPhase]

theorem writtenPhases_on {p : Fin 4} {v : Nat} {i : Instr} (h : i = phaseOnRead p ∨ i = phaseOnWrite p v)
    (ph : Phases) : writtenPhases i.index ph = ph ||| (1#4 <<< p.val) := by
  have hp : (2 * p.val + 1) / 2 = p.val := by omega
  simp [writtenPhases_eq, phaseOn_index_toNat h, hp, setPhase, onlyPhase]

theorem switchAction_phaseOff {p : Fin 4} {v : Nat} {i : Instr} (h : i = phaseOffRead p ∨ i = phaseOffWrite p v)
    {c : Controller} (hle : popcount (c.ph &&& ~~~(1#4 <<< p.val)) ≤ 2) (wp : WpPins) :
    switchAction i wp c = .done (c.track (c.ph &&& ~~~(1#4 <<< p.val))) := by
  rw [← writtenPhases_off h] at hle ⊢
  rw [switchAction_phase (phaseOff_isPhase h), phaseSwitch_of_le hle]

theorem switchAction_phaseOn {p : Fin 4} {v : Nat} {i : Instr} (h : i = phaseOnRead p ∨ i = phaseOnWrite p v)
    {c : Controller} (hle : popcount (c.ph ||| (1#4 <<< p.val)) ≤ 2) (wp : WpPins) :
    switchAction i wp c = .done (c.track (c.ph ||| (1#4 <<< p.val))) := by
  rw [← writtenPhases_on h] at hle ⊢
  rw [switchAction_phase (phaseOn_isPhase h), phaseSwitch_of_le hle]

/-- Settles O22: step 1 leaves the tracked block, and steps 2 and 3 are those of an even index. -/
theorem phaseOffSwitchesCompleteWhenAtMostTwoRemain : Obligations.PhaseOffSwitchesCompleteWhenAtMostTwoRemain := by
  intro p v s hle
  have heven : (phaseOffRead p).index.toNat % 2 = 0 := by rw [phaseOff_index_toNat (v := v) (.inl rfl)]; omega
  exact ⟨exec_evenRead_of_done _ (phaseOffRead_value p) heven (switchAction_phaseOff (v := v) (.inl rfl) hle s.wp),
    exec_write_of_done _ (phaseOffWrite_value p v) (switchAction_phaseOff (.inr rfl) hle s.wp)⟩

/-- Settles O23: step 1 leaves the tracked block, and steps 2 and 3 are those of an odd index. -/
theorem phaseOnSwitchesCompleteWhenAtMostTwoAreOn : Obligations.PhaseOnSwitchesCompleteWhenAtMostTwoAreOn := by
  intro p v s hle
  have hodd : (phaseOnRead p).index.toNat % 2 = 1 := by rw [phaseOn_index_toNat (v := v) (.inl rfl)]; omega
  exact ⟨exec_oddRead_of_done _ (phaseOnRead_value p) hodd (switchAction_phaseOn (v := v) (.inl rfl) hle s.wp),
    exec_write_of_done _ (phaseOnWrite_value p v) (switchAction_phaseOn (.inr rfl) hle s.wp)⟩

theorem two_lt_popcount_cleared_iff (ph : Phases) (p : Fin 4) :
    2 < popcount (ph &&& ~~~(1#4 <<< p.val)) ↔ ∀ q : Fin 4, q ≠ p → ph.getLsbD q = true := by
  revert ph p; decide

theorem two_lt_popcount_set_iff (ph : Phases) (p : Fin 4) :
    2 < popcount (ph ||| (1#4 <<< p.val)) ↔
      ∃ q r : Fin 4, q ≠ p ∧ r ≠ p ∧ q ≠ r ∧ ph.getLsbD q = true ∧ ph.getLsbD r = true := by
  revert ph p; decide

/-- Settles O24: the fault condition of O14 on the pattern with one flag cleared or set. -/
theorem phaseSwitchFaultConditionsBySwitch : Obligations.PhaseSwitchFaultConditionsBySwitch := by
  refine fun p v s => ⟨fun i hi => ?_, fun i hi => ?_⟩
  · obtain ⟨t, ht⟩ := exec_next i s
    refine ⟨t, ht, ?_⟩
    rw [exec_phase_faulted_iff (phaseOff_isPhase hi) ht, writtenPhases_off hi, two_lt_popcount_cleared_iff]
  · obtain ⟨t, ht⟩ := exec_next i s
    refine ⟨t, ht, ?_⟩
    rw [exec_phase_faulted_iff (phaseOn_isPhase hi) ht, writtenPhases_on hi, two_lt_popcount_set_iff]

theorem popcount_cleared {ph : Phases} {p : Fin 4} (h : ph.getLsbD p = true) :
    popcount (ph &&& ~~~(1#4 <<< p.val)) + 1 = popcount ph := by
  revert ph p; decide

/-- A phase switch that the tracker answers with no motion leaves both heads. -/
theorem exec_phase_pos_of_noMove {i : Instr} {s t : State} (hphase : i.index.toNat < 8) (h : exec i s = .next t)
    (hstill : resolve s.ctl.ph t.ctl.ph = .noMove) (d : Fin 2) : t.ctl.pos d = s.ctl.pos d := by
  rw [exec_phase_pos hphase h, hstill, headAfter, ite_self]

/-- Settles O17: two phases remain, which is no fault, and three before them is no single other phase. -/
theorem threeToTwoEndsTheFaultEpisode : Obligations.ThreeToTwoEndsTheFaultEpisode := by
  intro p v i s hi hthree hon
  have htwo : popcount (s.ctl.ph &&& ~~~(1#4 <<< p.val)) = 2 := by
    have := popcount_cleared hon
    omega
  have ht := exec_of_done (switchAction_phaseOff hi htwo.le s.wp)
  have hstill := exec_phase_pos_of_noMove (phaseOff_isPhase hi) ht
    (by simpa [Controller.track] using resolve_of_two_noMove htwo (.inl (by omega)))
  exact ⟨_, ht, ⟨_, State.complete_result ..⟩, by simp [Controller.track], by simpa [Controller.track] using htwo,
    hstill 0, hstill 1⟩

theorem setPhase_bit_of_lt (ph : Phases) {p : Nat} (hp : p < 4) (on : Bool) (q : Fin 4) :
    (setPhase ph p on).getLsbD q = if q.val = p then on else ph.getLsbD q := by
  simpa [Fin.ext_iff, eq_comm] using setPhase_bit ph ⟨p, hp⟩ q on

theorem bit_three_of_lt_eight {i : SwitchIndex} (h : i.toNat < 8) : i.getLsbD 3 = false := by
  revert i; decide

/-- Settles O21: faulting or not, the access leaves the written pattern (`exec_phase_ph`). -/
theorem phaseSwitchWritesItsFlagAlone : Obligations.PhaseSwitchWritesItsFlagAlone := by
  intro i s hphase
  obtain ⟨t, ht⟩ := exec_next i s
  refine ⟨bit_three_of_lt_eight hphase, t, ht, fun q => ?_⟩
  have hnumber : phaseNumber i.index < 4 := by rw [phaseNumber_eq]; omega
  rw [exec_phase_ph hphase ht, setPhase_bit_of_lt _ hnumber]
  rfl

end Sys2Proof.Machine

/-! ### Where the tracker puts the selected head (42_stepper_tracker.md R78, section 4) -/

namespace Sys2Proof.Machine

theorem exec_phase_pos_of_move {i : Instr} {s t : State} {dl : Int} (hphase : i.index.toNat < 8) (h : exec i s = .next t)
    (hmove : resolve s.ctl.ph t.ctl.ph = .move dl) : t.ctl.pos s.ctl.drv = clamp ((s.ctl.pos s.ctl.drv : Int) + dl) := by
  rw [exec_phase_pos hphase h, if_pos rfl, hmove, headAfter]

/-- Settles O26: the clamp takes -1 to `POS_MIN` and 144 to `POS_MAX`. -/
theorem headSaturatesAtTheRangeEnds : Obligations.HeadSaturatesAtTheRangeEnds := by
  intro i s hphase
  obtain ⟨t, ht⟩ := exec_next i s
  refine ⟨t, ht, fun hlow hmove => ?_, fun hhigh hmove => ?_⟩
  · rw [exec_phase_pos_of_move hphase ht hmove, hlow]
    rfl
  · rw [exec_phase_pos_of_move hphase ht hmove, hhigh]
    rfl

theorem exec_phase_steps_up {i : Instr} {s t : State} (hphase : i.index.toNat < 8) (h : exec i s = .next t)
    (hmove : resolve s.ctl.ph t.ctl.ph = .move 1) (hroom : s.ctl.pos s.ctl.drv < 143) :
    t.ctl.pos s.ctl.drv = s.ctl.pos s.ctl.drv + 1 := by
  rw [exec_phase_pos_of_move hphase h hmove, clamp_inside (by omega) (by omega)]
  omega

theorem exec_phase_steps_down {i : Instr} {s t : State} (hphase : i.index.toNat < 8) (h : exec i s = .next t)
    (hmove : resolve s.ctl.ph t.ctl.ph = .move (-1)) (hlow : 0 < s.ctl.pos s.ctl.drv) (hhigh : s.ctl.pos s.ctl.drv ≤ 143) :
    t.ctl.pos s.ctl.drv + 1 = s.ctl.pos s.ctl.drv := by
  rw [exec_phase_pos_of_move hphase h hmove, clamp_inside (by omega) (by omega)]
  omega

theorem exec_phaseOff_ph {p : Fin 4} {v : Nat} {i : Instr} {s t : State} (hi : i = phaseOffRead p ∨ i = phaseOffWrite p v)
    (h : exec i s = .next t) : t.ctl.ph = s.ctl.ph &&& ~~~(1#4 <<< p.val) := by
  rw [exec_phase_writtenPhases (phaseOff_isPhase hi) h, writtenPhases_off hi]

theorem exec_phaseOn_ph {p : Fin 4} {v : Nat} {i : Instr} {s t : State} (hi : i = phaseOnRead p ∨ i = phaseOnWrite p v)
    (h : exec i s = .next t) : t.ctl.ph = s.ctl.ph ||| (1#4 <<< p.val) := by
  rw [exec_phase_writtenPhases (phaseOn_isPhase hi) h, writtenPhases_on hi]

theorem resolve_added {a b : Fin 4} (h : a ≠ b) :
    resolve (1#4 <<< b.val) ((1#4 <<< b.val) ||| (1#4 <<< a.val)) = .move (dir a b) := by
  rw [resolve_of_two (popcount_pair h.symm), resolveTwo_of_added h]

theorem resolve_first_removed {f o : Fin 4} (h : o ≠ f) :
    resolve ((1#4 <<< o.val) ||| (1#4 <<< f.val)) (1#4 <<< f.val) = .move (dir f o) := by
  rw [resolve_of_one (popcount_single f), resolveOne_of_single_rest]
  rw [BitVec.or_comm, pair_without_first h.symm]

/-- Settles O27: the phase added or left on is the destination, the single other phase the origin, and on neighbours `dir`
is the sense of the cycle; inside the range the move is a whole step. -/
theorem overlappedSteppingMovesOneQuarterTrack : Obligations.OverlappedSteppingMovesOneQuarterTrack := by
  intro p q v s hq
  have hpq : p ≠ q := by rintro rfl; omega
  have hup : dir q p = 1 := dir_of_succ_mod p.isLt hq
  have hdown : dir p q = -1 := dir_of_pred_mod p.isLt hq
  refine ⟨fun i hi hph hroom => ?_, fun i hi hph hroom => ?_, fun i hi hph hlow hhigh => ?_,
    fun i hi hph hlow hhigh => ?_⟩
  · obtain ⟨t, ht⟩ := exec_next i s
    have hcur : t.ctl.ph = (1#4 <<< p.val) ||| (1#4 <<< q.val) := by rw [exec_phaseOn_ph hi ht, hph]
    exact ⟨t, ht, exec_phase_steps_up (phaseOn_isPhase hi) ht (by rw [hph, hcur, resolve_added hpq.symm, hup]) hroom, hcur⟩
  · obtain ⟨t, ht⟩ := exec_next i s
    have hcur : t.ctl.ph = 1#4 <<< q.val := by rw [exec_phaseOff_ph hi ht, hph, pair_without_first hpq]
    exact ⟨t, ht, exec_phase_steps_up (phaseOff_isPhase hi) ht (by rw [hph, hcur, resolve_first_removed hpq, hup]) hroom,
      hcur⟩
  · obtain ⟨t, ht⟩ := exec_next i s
    have hcur : t.ctl.ph = (1#4 <<< q.val) ||| (1#4 <<< p.val) := by rw [exec_phaseOn_ph hi ht, hph]
    exact ⟨t, ht, exec_phase_steps_down (phaseOn_isPhase hi) ht (by rw [hph, hcur, resolve_added hpq, hdown]) hlow hhigh,
      hcur.trans (BitVec.or_comm ..)⟩
  · obtain ⟨t, ht⟩ := exec_next i s
    rw [BitVec.or_comm] at hph
    have hcur : t.ctl.ph = 1#4 <<< p.val := by rw [exec_phaseOff_ph hi ht, hph, pair_without_first hpq.symm]
    exact ⟨t, ht, exec_phase_steps_down (phaseOff_isPhase hi) ht (by rw [hph, hcur, resolve_first_removed hpq.symm, hdown])
      hlow hhigh, hcur⟩

theorem exists_move_of_headAfter_ne {m : Motion} {x : Nat} (h : headAfter m x ≠ x) : ∃ dl, m = .move dl := by
  cases m with
  | move dl => exact ⟨dl, rfl⟩
  | noMove | fault => exact absurd rfl h

theorem exec_pos_changed {i : Instr} {s t : State} (h : exec i s = .next t) {d : Fin 2} (hne : t.ctl.pos d ≠ s.ctl.pos d) :
    i.index.toNat < 8 ∧ ∃ dl, resolve s.ctl.ph t.ctl.ph = .move dl := by
  obtain hphase | hother := Nat.lt_or_ge i.index.toNat 8
  · rw [exec_phase_pos hphase h] at hne
    split at hne
    · exact ⟨hphase, exists_move_of_headAfter_ne hne⟩
    · exact absurd rfl hne
  · exact absurd (exec_other_pos hother h d) hne

/-- Of the patterns that one switch can lead to one another, the tracker moves the head on one-to-two and two-to-one alone
(a redundant switch and every other count is no motion). -/
theorem popcounts_of_motion {i : SwitchIndex} {ph : Phases} (hmotion : resolve ph (writtenPhases i ph) ≠ .noMove)
    (hfault : resolve ph (writtenPhases i ph) ≠ .fault) :
    (popcount ph = 1 ∧ popcount (writtenPhases i ph) = 2) ∨ (popcount ph = 2 ∧ popcount (writtenPhases i ph) = 1) := by
  revert i ph; decide

theorem headAfter_near (prev cur : Phases) {x : Nat} (h : x ≤ 143) :
    headAfter (resolve prev cur) x ≤ x + 1 ∧ x ≤ headAfter (resolve prev cur) x + 1 := by
  obtain hm | hm | hm | hm := resolve_cases prev cur <;>
    simp only [hm, headAfter, clamp, Config.posMin, Config.posMax] <;> omega

/-- Settles O28: a changed head was moved by a phase switch (`exec_pos_changed`), and the patterns are those of
`popcounts_of_motion`; no answer of the tracker moves a head further than one (`headAfter_near`). -/
theorem headMovesOnlyBetweenOneAndTwoPhases : Obligations.HeadMovesOnlyBetweenOneAndTwoPhases := by
  intro i s
  obtain ⟨t, ht⟩ := exec_next i s
  refine ⟨t, ht, fun d hne => ?_, fun d hin => ?_⟩
  · obtain ⟨hphase, dl, hmove⟩ := exec_pos_changed ht hne
    rw [exec_phase_writtenPhases hphase ht] at hmove ⊢
    exact ⟨hphase, popcounts_of_motion (by simp [hmove]) (by simp [hmove])⟩
  · obtain hphase | hother := Nat.lt_or_ge i.index.toNat 8
    · rw [exec_phase_pos hphase ht]
      split
      · exact headAfter_near _ _ hin
      · exact ⟨Nat.le_succ _, Nat.le_succ _⟩
    · rw [exec_other_pos hother ht]
      exact ⟨Nat.le_succ _, Nat.le_succ _⟩

theorem setPhase_same {ph : Phases} {p : Nat} {on : Bool} (hp : p < 4) (h : ph.getLsbD p = on) : setPhase ph p on = ph := by
  apply BitVec.eq_of_getLsbD_eq
  intro q hq
  refine (setPhase_bit_of_lt ph hp on ⟨q, hq⟩).trans ?_
  split
  next heq => exact h.symm.trans (congrArg ph.getLsbD heq).symm
  next => rfl

theorem not_move_of_same (ph : Phases) : resolve ph ph = .noMove ∨ resolve ph ph = .fault := by
  revert ph; decide

/-- Settles O29: the written pattern is the old one, on which the tracker gives no motion. -/
theorem redundantPhaseSwitchMovesNothing : Obligations.RedundantPhaseSwitchMovesNothing := by
  intro i s hphase hsame
  obtain ⟨t, ht⟩ := exec_next i s
  have hwritten : writtenPhases i.index s.ctl.ph = s.ctl.ph := by
    rw [writtenPhases_eq, setPhase_same (by omega) hsame]
  have hph : t.ctl.ph = s.ctl.ph := by rw [exec_phase_writtenPhases hphase ht, hwritten]
  have hpos : ∀ d, t.ctl.pos d = s.ctl.pos d := by
    intro d
    by_contra hne
    obtain ⟨-, dl, hmove⟩ := exec_pos_changed ht hne
    rw [hph] at hmove
    simpa [hmove] using not_move_of_same s.ctl.ph
  exact ⟨t, ht, hph, hpos 0, hpos 1, by rw [exec_phase_faulted_iff hphase ht, hwritten]⟩

end Sys2Proof.Machine

/-! ### The control flags (10_state.md sections 2 and 3) -/

namespace Sys2Proof.Machine

theorem phaseSwitch_block_flags (i : SwitchIndex) (c : Controller) :
    (phaseSwitch i c).block.motor = c.motor ∧ (phaseSwitch i c).block.lm = c.lm ∧ (phaseSwitch i c).block.wm = c.wm := by
  obtain hover | hle := Nat.lt_or_ge 2 (popcount (writtenPhases i c.ph))
  · rw [phaseSwitch_of_over hover]
    exact ⟨rfl, rfl, rfl⟩
  · rw [phaseSwitch_of_le hle]
    exact ⟨rfl, rfl, rfl⟩

/-- Step 1 writes `MOTOR`, `LM` and `WM` at their two indices alone (R52). -/
theorem switchAction_block_flags (i : Instr) (wp : WpPins) (c : Controller) :
    (switchAction i wp c).block.motor = (if i.index = 8#4 then false else if i.index = 9#4 then true else c.motor) ∧
    (switchAction i wp c).block.lm = (if i.index = 12#4 then false else if i.index = 13#4 then true else c.lm) ∧
    (switchAction i wp c).block.wm = (if i.index = 14#4 then false else if i.index = 15#4 then true else c.wm) := by
  cases i with
  | motoroffR | motoroffW | motoronR | motoronW | drv0selR | drv0selW | drv1selR | drv1selW
  | loadoffR | loadoffW | loadonW | writeoffR | writeoffW | writeonR | writeonW => exact ⟨rfl, rfl, rfl⟩
  | loadonR =>
    simp only [switchAction, Switched.block, Controller.senseWriteProtect_eq]
    exact ⟨rfl, rfl, rfl⟩
  | _ => exact phaseSwitch_block_flags _ c

theorem switchAction_block_ph {i : Instr} (h : 8 ≤ i.index.toNat) (wp : WpPins) (c : Controller) :
    (switchAction i wp c).block.ph = c.ph := by
  cases i with
  | motoroffR | motoroffW | motoronR | motoronW | drv0selR | drv0selW | drv1selR | drv1selW
  | loadoffR | loadoffW | loadonW | writeoffR | writeoffW | writeonR | writeonW => rfl
  | loadonR => simp [switchAction, Controller.senseWriteProtect_eq]
  | _ => simp [Instr.index] at h

/-- Steps 2 and 3 and the taking of the fault keep the flags that step 1 left. -/
theorem exec_flags {i : Instr} {s t : State} (h : exec i s = .next t) :
    t.ctl.motor = (switchAction i s.wp s.ctl).block.motor ∧ t.ctl.lm = (switchAction i s.wp s.ctl).block.lm ∧
    t.ctl.wm = (switchAction i s.wp s.ctl).block.wm := by
  obtain ⟨c, hdone, rfl⟩ | ⟨f, c, hraised, rfl⟩ := exec_cases h
  · simp [hdone]
  · simp [hraised]

theorem exec_motor {i : Instr} {s t : State} (h : exec i s = .next t) :
    t.ctl.motor = if i.index = 8#4 then false else if i.index = 9#4 then true else s.ctl.motor :=
  (exec_flags h).1.trans (switchAction_block_flags i s.wp s.ctl).1

theorem exec_lm {i : Instr} {s t : State} (h : exec i s = .next t) :
    t.ctl.lm = if i.index = 12#4 then false else if i.index = 13#4 then true else s.ctl.lm :=
  (exec_flags h).2.1.trans (switchAction_block_flags i s.wp s.ctl).2.1

theorem exec_wm {i : Instr} {s t : State} (h : exec i s = .next t) :
    t.ctl.wm = if i.index = 14#4 then false else if i.index = 15#4 then true else s.ctl.wm :=
  (exec_flags h).2.2.trans (switchAction_block_flags i s.wp s.ctl).2.2

theorem exec_other_ph {i : Instr} {s t : State} (hother : 8 ≤ i.index.toNat) (h : exec i s = .next t) :
    t.ctl.ph = s.ctl.ph :=
  (exec_ph h).trans (switchAction_block_ph hother s.wp s.ctl)

/-- Settles O48: step 1 writes each flag at its two indices, and the rest of the access keeps it. -/
theorem controlFlagsAreWrittenOnlyByTheirSwitches : Obligations.ControlFlagsAreWrittenOnlyByTheirSwitches := by
  intro i s
  obtain ⟨t, ht⟩ := exec_next i s
  exact ⟨t, ht, exec_motor ht, (exec_drv ht).trans (switchAction_block_drv i s.wp s.ctl), exec_lm ht, exec_wm ht,
    fun hother => exec_other_ph hother ht⟩

/-- Settles O30: what an access leaves in `PH`, `POS` and `DRV`, and whether it faults, are functions of the three. -/
theorem trackerIgnoresMotorModesLatchSpinAndPins : Obligations.TrackerIgnoresMotorModesLatchSpinAndPins := by
  intro i s s' hph hdrv hpos0 hpos1
  have hpos : ∀ d, s.ctl.pos d = s'.ctl.pos d := Fin.forall_fin_two.mpr ⟨hpos0, hpos1⟩
  obtain ⟨t, ht⟩ := exec_next i s
  obtain ⟨t', ht'⟩ := exec_next i s'
  have hdrvAfter : t.ctl.drv = t'.ctl.drv := by
    rw [exec_drv ht, exec_drv ht', switchAction_block_drv, switchAction_block_drv, hdrv]
  have hfault : t.Faulted ↔ t'.Faulted := by rw [exec_faulted_iff ht, exec_faulted_iff ht', hph]
  obtain hphase | hother := Nat.lt_or_ge i.index.toNat 8
  · have hphAfter : t.ctl.ph = t'.ctl.ph := by rw [exec_phase_ph hphase ht, exec_phase_ph hphase ht', hph]
    have hposAfter : ∀ d, t.ctl.pos d = t'.ctl.pos d := fun d => by
      rw [exec_phase_pos hphase ht, exec_phase_pos hphase ht', hphAfter, hph, hdrv, hpos]
    exact ⟨t, t', ht, ht', hphAfter, hdrvAfter, hposAfter 0, hposAfter 1, hfault⟩
  · have hposAfter : ∀ d, t.ctl.pos d = t'.ctl.pos d := fun d => by
      rw [exec_other_pos hother ht, exec_other_pos hother ht', hpos]
    exact ⟨t, t', ht, ht', by rw [exec_other_ph hother ht, exec_other_ph hother ht', hph], hdrvAfter, hposAfter 0,
      hposAfter 1, hfault⟩

/-- Settles O35: with `LM` now 0 the latch rule loads nothing, and index 12 is even. -/
theorem loadOffClearsLoadModeAndFetchesNothing : Obligations.LoadOffClearsLoadModeAndFetchesNothing := by
  refine ⟨rfl, fun _ => decode_write (k := 12) rfl rfl (by decide),
    fun s => exec_evenRead_of_done (s.ctl.setLoadMode false) rfl rfl rfl, fun v s => ?_⟩
  rw [exec_write_of_done (s.ctl.setLoadMode false) rfl rfl, Controller.setLoadMode_lm, Bool.and_false]
  rfl

end Sys2Proof.Machine

/-! ### The latch and the returned byte (40_decoder_pipeline.md R53 to R57) -/

namespace Sys2Proof.Machine

/-- A faulting access is a phase switch, and keeps the written pattern and nothing else of the access (R102). -/
theorem exec_of_faulted {i : Instr} {s t : State} (h : exec i s = .next t) (hfault : t.Faulted) :
    t = s.takeFault .invalidMotorState (s.ctl.setPh (writtenPhases i.index s.ctl.ph)) := by
  obtain ⟨hphase, hover⟩ := (exec_faulted_iff h).mp hfault
  cases (exec_phase_of_over hphase hover).symm.trans h
  rfl

/-- An access that does not fault completes from the block its switch left. -/
theorem exec_of_not_faulted {i : Instr} {s t : State} (h : exec i s = .next t) (hok : ¬ t.Faulted) :
    ∃ c, switchAction i s.wp s.ctl = .done c ∧ t = s.complete i.index i.value c := by
  obtain hdone | ⟨f, c, -, rfl⟩ := exec_cases h
  · exact hdone
  · exact absurd State.takeFault_faulted hok

theorem exec_dl_of_faulted {i : Instr} {s t : State} (h : exec i s = .next t) (hfault : t.Faulted) :
    t.ctl.dl = s.ctl.dl := by
  rw [exec_of_faulted h hfault]; rfl

theorem exec_spin_of_faulted {i : Instr} {s t : State} (h : exec i s = .next t) (hfault : t.Faulted) :
    t.ctl.spin = s.ctl.spin := by
  rw [exec_of_faulted h hfault]; rfl

/-- A write loads its low eight bits when the three flags are on after its own switch action (R53). -/
theorem exec_write_dl {i : Instr} {s t : State} {v : Nat} (hvalue : i.value = some v) (h : exec i s = .next t)
    (hok : ¬ t.Faulted) : t.ctl.dl = if t.ctl.motor && t.ctl.wm && t.ctl.lm then BitVec.ofNat 8 v else s.ctl.dl := by
  obtain ⟨c, hdone, rfl⟩ := exec_of_not_faulted h hok
  obtain ⟨-, hdl⟩ := switchAction_done_spin_dl hdone
  rw [hvalue, State.complete_write, latchRule_write, hdl (by rintro rfl; cases hvalue)]
  rfl

/-- A read never loads; the sense of `LOADON.R` is the one way it can touch the latch. -/
theorem exec_read_dl {i : Instr} {s t : State} (hread : i.value = none) (hsense : i ≠ .loadonR) (h : exec i s = .next t) :
    t.ctl.dl = s.ctl.dl := by
  by_cases hfault : t.Faulted
  · exact exec_dl_of_faulted h hfault
  · obtain ⟨c, hdone, rfl⟩ := exec_of_not_faulted h hfault
    obtain ⟨-, hdl⟩ := switchAction_done_spin_dl hdone
    rw [hread, State.complete_ctl, returnState_dl, latchRule_read, hdl hsense]

theorem exec_dl_of_flag_off {i : Instr} {s t : State} (hsense : i ≠ .loadonR) (h : exec i s = .next t)
    (hoff : (t.ctl.motor && t.ctl.wm && t.ctl.lm) = false) : t.ctl.dl = s.ctl.dl := by
  cases hvalue : i.value with
  | none => exact exec_read_dl hvalue hsense h
  | some v =>
    by_cases hfault : t.Faulted
    · exact exec_dl_of_faulted h hfault
    · rw [exec_write_dl hvalue h hfault, hoff]; rfl

theorem exec_dl_of_flags_on {i : Instr} {s t : State} {v : Nat} (hvalue : i.value = some v) (h : exec i s = .next t)
    (hother : 8 ≤ i.index.toNat) (hmotor : t.ctl.motor = true) (hwm : t.ctl.wm = true) (hlm : t.ctl.lm = true) :
    t.ctl.dl = BitVec.ofNat 8 v := by
  rw [exec_write_dl hvalue h (exec_other_not_faulted hother h), hmotor, hwm, hlm]; rfl

theorem ne_loadonR_of_index {i : Instr} (h : i.index ≠ 13#4) : i ≠ .loadonR := by
  rintro rfl; exact h rfl

/-- Settles O41: the rule itself by `exec_write_dl` and `exec_read_dl`. Indices 8, 12 and 14 leave one of the three flags off
and 9, 13 and 15 leave theirs on (`exec_motor`, `exec_lm`, `exec_wm`). -/
theorem globalLatchRule : Obligations.GlobalLatchRule := by
  intro i s
  obtain ⟨t, ht⟩ := exec_next i s
  have hmotor := exec_motor ht
  have hlm := exec_lm ht
  have hwm := exec_wm ht
  refine ⟨t, ht, fun v hvalue hok => exec_write_dl hvalue ht hok, fun v _ hfault => exec_dl_of_faulted ht hfault,
    fun hread hindex => exec_read_dl hread (ne_loadonR_of_index hindex) ht, fun hindex => ?_,
    fun v hvalue hindex hwm₀ hlm₀ => ?_, fun v hvalue hindex hmotor₀ hwm₀ => ?_, fun v hvalue hindex hmotor₀ hlm₀ => ?_⟩
  · have hsense : i.index ≠ 13#4 := by obtain hi | hi | hi := hindex <;> simp [hi]
    refine exec_dl_of_flag_off (ne_loadonR_of_index hsense) ht ?_
    obtain hi | hi | hi := hindex
    · simp [hmotor, hi]
    · simp [hlm, hi]
    · simp [hwm, hi]
  · exact exec_dl_of_flags_on hvalue ht (by simp [hindex]) (by simp [hmotor, hindex]) (by simp [hwm, hindex, hwm₀])
      (by simp [hlm, hindex, hlm₀])
  · exact exec_dl_of_flags_on hvalue ht (by simp [hindex]) (by simp [hmotor, hindex, hmotor₀])
      (by simp [hwm, hindex, hwm₀]) (by simp [hlm, hindex])
  · exact exec_dl_of_flags_on hvalue ht (by simp [hindex]) (by simp [hmotor, hindex, hmotor₀]) (by simp [hwm, hindex])
      (by simp [hlm, hindex, hlm₀])

theorem sensedLatch_low_bits (dl : Byte) (level : Bool) : sensedLatch dl level &&& 0x7F#8 = dl &&& 0x7F#8 := by
  revert dl level; decide

/-- Settles O42: a write that changes the latch met the rule (`exec_write_dl`), and of the reads only `LOADON.R` can change
it (`exec_read_dl`), by a sense that fires (`exec_loadonR`). -/
theorem latchChangesOnlyByWriteOrSense : Obligations.LatchChangesOnlyByWriteOrSense := by
  intro i s
  obtain ⟨t, ht⟩ := exec_next i s
  refine ⟨t, ht, fun hne => ?_⟩
  cases hvalue : i.value with
  | some v =>
    have hok : ¬ t.Faulted := fun hfault => hne (exec_dl_of_faulted ht hfault)
    have hdl := exec_write_dl hvalue ht hok
    by_cases hload : t.ctl.motor && t.ctl.wm && t.ctl.lm
    · rw [if_pos hload] at hdl
      simp only [Bool.and_eq_true] at hload
      obtain ⟨⟨hmotor, hwm⟩, hlm⟩ := hload
      exact .inl ⟨v, rfl, hdl, hmotor, hwm, hlm⟩
    · rw [if_neg hload] at hdl
      exact absurd hdl hne
  | none =>
    obtain rfl : i = .loadonR := by
      by_contra hsense
      exact hne (exec_read_dl hvalue hsense ht)
    have hseven := exec_loadonR_bit_seven ht
    cases (exec_loadonR s).symm.trans ht
    by_cases hfires : s.ctl.motor && !s.ctl.wm
    · simp only [Bool.and_eq_true, Bool.not_eq_true'] at hfires
      obtain ⟨hmotor, hwm⟩ := hfires
      refine .inr ⟨rfl, hmotor, hwm, ?_, hseven hmotor hwm⟩
      simp [hmotor, hwm, sensedLatch_low_bits]
    · exact absurd (if_neg hfires) hne

/-- A non-zero distance below 256 separates the two sentinels (R55). -/
theorem spinSentinels_differ : Config.spinSentinel1 ≠ Config.spinSentinel0 := by
  intro h
  have hgap : BitVec.ofNat 8 (Config.spinSentinelGap.val + 1) = 0#8 := by
    rw [Config.spinSentinel0] at h
    simpa using h
  have hlt := Config.spinSentinelGap.isLt
  have htoNat := congrArg BitVec.toNat hgap
  rw [BitVec.toNat_ofNat, Nat.mod_eq_of_lt (by omega)] at htoNat
  exact absurd htoNat (Nat.succ_ne_zero _)

/-- With the motor off, step 3 of a read of an even index inverts `SPIN` and returns the sentinel of the new value (R55). -/
theorem State.complete_evenRead_motorOff (s : State) {i : SwitchIndex} {c : Controller} (heven : i.toNat % 2 = 0)
    (hmotor : c.motor = false) :
    s.complete i none c = { s with ctl := c.toggleSpin, result := some (.byte (spinSentinel (!c.spin))) } := by
  simp [State.complete, returnState, returnByte, evenIndex_eq, heven, hmotor]

/-- A read of an odd index and a write leave step 3 nothing to do but to return `FLOAT_BUS` (R56). -/
theorem State.complete_oddRead_or_write (s : State) {i : SwitchIndex} {v : Option Nat} (c : Controller)
    (h : v ≠ none ∨ i.toNat % 2 = 1) :
    s.complete i v c = { s with ctl := latchRule v c, result := some (.byte Config.floatBus) } := by
  cases v with
  | some x => exact s.complete_write i x c
  | none =>
    have hodd : i.toNat % 2 = 1 := h.resolve_left fun hne => hne rfl
    simp [State.complete, returnState, returnByte, evenIndex_eq, hodd]

/-- Settles O45: step 1 and the latch rule keep `SPIN`, and so does a fault. -/
theorem oddReadsAndWritesReturnFloatBus : Obligations.OddReadsAndWritesReturnFloatBus := by
  intro i s hi
  obtain ⟨t, ht⟩ := exec_next i s
  refine ⟨t, ht, ?_⟩
  by_cases hfault : t.Faulted
  · exact ⟨exec_spin_of_faulted ht hfault, fun hok => absurd hfault hok⟩
  · obtain ⟨c, hdone, rfl⟩ := exec_of_not_faulted ht hfault
    obtain ⟨hspin, -⟩ := switchAction_done_spin_dl hdone
    rw [State.complete_oddRead_or_write s c hi]
    exact ⟨(latchRule_spin ..).trans hspin, fun _ => rfl⟩

theorem exec_evenRead_motorOff {i : Instr} {s t : State} (hread : i.value = none) (heven : i.index.toNat % 2 = 0)
    (h : exec i s = .next t) (hmotor : t.ctl.motor = false) (hok : ¬ t.Faulted) :
    t.ctl.spin = (!s.ctl.spin) ∧ t.ctl.dl = s.ctl.dl ∧ t.result = some (.byte (spinSentinel t.ctl.spin)) := by
  have hsense : i ≠ .loadonR := by rintro rfl; exact absurd heven (by decide)
  have hdl := exec_read_dl hread hsense h
  obtain ⟨c, hdone, rfl⟩ := exec_of_not_faulted h hok
  obtain ⟨hspin, -⟩ := switchAction_done_spin_dl hdone
  rw [hread, State.complete_evenRead_motorOff s heven (by simpa using hmotor)] at hdl ⊢
  exact ⟨congrArg (!·) hspin, hdl, rfl⟩

/-- Settles O44: the one case by `exec_evenRead_motorOff`. In the others an odd read or a write keeps `SPIN` by O45, an even
read with the motor on by O43, and a fault by R102. -/
theorem evenReadWithMotorOffAlternatesTheSentinels : Obligations.EvenReadWithMotorOffAlternatesTheSentinels := by
  refine ⟨spinSentinels_differ, fun i s => ?_⟩
  obtain ⟨t, ht⟩ := exec_next i s
  refine ⟨t, ht, fun ⟨hread, heven, hmotor, hok⟩ => exec_evenRead_motorOff hread heven ht hmotor hok, fun hnot => ?_⟩
  by_cases hi : i.value ≠ none ∨ i.index.toNat % 2 = 1
  · obtain ⟨t', ht', hspin, -⟩ := oddReadsAndWritesReturnFloatBus i s hi
    cases ht.symm.trans ht'
    exact hspin
  · obtain ⟨hread, heven⟩ : i.value = none ∧ i.index.toNat % 2 = 0 := by simpa using hi
    by_cases hfault : t.Faulted
    · exact exec_spin_of_faulted ht hfault
    · have hmotor : t.ctl.motor = true := by simpa [hread, heven, hfault] using hnot
      obtain ⟨t', ht', hlatch, -⟩ := evenReadWithMotorOnReturnsTheLatch i s hread heven
      cases ht.symm.trans ht'
      exact (hlatch hmotor hfault).2.1

end Sys2Proof.Machine

/-! ### The first access after reset (70_reset_and_hazards.md section 1) -/

namespace Sys2Proof.Machine

/-- One switch energizes at most one phase of the empty pattern. -/
theorem popcount_writtenPhases_reset (i : SwitchIndex) : popcount (writtenPhases i 0#4) ≤ 1 := by
  revert i; decide

theorem exec_reset_not_faulted {i : Instr} {wp : WpPins} {t : State} (h : exec i { State.reset with wp := wp } = .next t) :
    ¬ t.Faulted := by
  rw [exec_faulted_iff h]
  have hpop : popcount (writtenPhases i.index (0#4)) ≤ 1 := popcount_writtenPhases_reset i.index
  exact fun ⟨_, hover⟩ => absurd (lt_of_lt_of_le hover hpop) (by decide)

/-- No phase was on, so by O28 no head has moved. -/
theorem exec_reset_pos {i : Instr} {wp : WpPins} {t : State} (h : exec i { State.reset with wp := wp } = .next t)
    (d : Fin 2) : t.ctl.pos d = State.reset.ctl.pos d := by
  obtain ⟨t', ht', hmoves, -⟩ := headMovesOnlyBetweenOneAndTwoPhases i { State.reset with wp := wp }
  cases h.symm.trans ht'
  by_contra hne
  have hnone : popcount 0#4 = 0 := by decide
  obtain ⟨-, ⟨hone, -⟩ | ⟨htwo, -⟩⟩ := hmoves d hne
  · exact absurd (hnone.symm.trans hone) (by decide)
  · exact absurd (hnone.symm.trans htwo) (by decide)

theorem exec_reset_motor {i : Instr} {wp : WpPins} {t : State} (h : exec i { State.reset with wp := wp } = .next t)
    (heven : i.index.toNat % 2 = 0) : t.ctl.motor = false := by
  have hindex : i.index ≠ 9#4 := by rintro hi; rw [hi] at heven; cases heven
  rw [exec_motor h, if_neg hindex]
  exact ite_self _

/-- Of `WM` and `LM` a first access can set one, and with the motor off the sense does not fire, so by O42 the latch stays. -/
theorem exec_reset_dl {i : Instr} {wp : WpPins} {t : State} (h : exec i { State.reset with wp := wp } = .next t) :
    t.ctl.dl = 0#8 := by
  obtain ⟨t', ht', hchanges⟩ := latchChangesOnlyByWriteOrSense i { State.reset with wp := wp }
  cases h.symm.trans ht'
  by_contra hne
  obtain ⟨v, -, -, -, hwm, hlm⟩ | ⟨-, hmotor, -⟩ := hchanges hne
  · rw [exec_wm h] at hwm
    rw [exec_lm h] at hlm
    have hfifteen : i.index = 15#4 := by by_contra hi; simp [hi, State.reset, Controller.reset] at hwm
    simp [hfifteen, State.reset, Controller.reset] at hlm
  · cases hmotor

/-- Settles O53: the byte and `SPIN` by O44 and O45, from a block with no phase on and every flag off. -/
theorem firstAccessAfterReset : Obligations.FirstAccessAfterReset := by
  intro i wp
  obtain ⟨t, ht⟩ := exec_next i { State.reset with wp := wp }
  have hok := exec_reset_not_faulted ht
  refine ⟨t, ht, hok, exec_reset_pos ht 0, exec_reset_pos ht 1, exec_reset_dl ht, fun hread heven => ?_, fun hi => ?_⟩
  · obtain ⟨hspin, -, hresult⟩ := exec_evenRead_motorOff hread heven ht (exec_reset_motor ht heven) hok
    rw [hresult, hspin]
    exact ⟨rfl, rfl⟩
  · obtain ⟨t', ht', hspin, hresult⟩ := oddReadsAndWritesReturnFloatBus i { State.reset with wp := wp } hi
    cases ht.symm.trans ht'
    exact ⟨hresult hok, hspin⟩

end Sys2Proof.Machine

/-! ### Written values wider than a byte (20_memory.md R29, decision D18) -/

namespace Sys2Proof.Machine

theorem zext8_mod (v : Nat) : zext8 (v % 256) = zext8 v := BitVec.eq_of_toNat_eq (by simp)

/-- The latch rule is the one place a written value goes, and it keeps the low eight bits (R98). -/
theorem State.complete_value_mod (s : State) (i : SwitchIndex) (V : Option Nat) (c : Controller) :
    s.complete i (V.map (· % 256)) c = s.complete i V c := by
  cases V with
  | none => rfl
  | some v =>
    rw [Option.map_some, State.complete_write, State.complete_write, latchRule_write, latchRule_write, zext8_mod]

theorem access_value_mod (i : SwitchIndex) (V : Option Nat) (action : Controller → Switched) (s : State) :
    access i (V.map (· % 256)) action s = access i V action s := by
  cases h : action s.ctl with
  | done c => rw [access_done h, access_done h, State.complete_value_mod]
  | raised f c => rw [access_raised h, access_raised h]

/-- Settles O8: two writes to one switch have one switch action, and the rest of the access reduces the value. -/
theorem widerValuesAreReducedToAByte : Obligations.WiderValuesAreReducedToAByte := by
  refine ⟨fun A v => ⟨Instr.eq_of_index_value ?_ ?_, decodeAccess_value A _⟩, fun i j s v hindex hi hj => ?_⟩
  · rw [decodeAccess_index, decodeAccess_index]
  · rw [decodeAccess_value, decodeAccess_value]
    simp
  · rw [exec_eq_access, exec_eq_access, switchAction_congr hindex (by rw [hi, hj]; rfl), hindex, hi, hj]
    exact (access_value_mod _ (some v) _ s).symm

end Sys2Proof.Machine

/-! ### The reference listing (40_decoder_pipeline.md section 7) -/

namespace Sys2Proof.Machine

/-- Step 1 of the listing for a phase switch: the tracked block, and the fault where the tracker finds it. -/
theorem refStepOne_phase {i : SwitchIndex} (h : i.toNat < 8) (V : Option Nat) (wp : WpPins) (c : Controller) :
    refStepOne i.toNat V wp c =
      (c.track (writtenPhases i c.ph), decide (resolve c.ph (writtenPhases i c.ph) = .fault)) := by
  rw [writtenPhases_eq, refStepOne, if_pos (by omega)]
  by_cases hon : i.toNat % 2 = 1 <;> simp [hon, setPhase, onlyPhase, Controller.track]

/-- Step 1 of the listing for the switches with index 8 to 15. -/
theorem refStepOne_other {i : Instr} {V : Option Nat} (h : 8 ≤ i.index.toNat) (hkind : i.value.isNone = V.isNone)
    (wp : WpPins) (c : Controller) :
    refStepOne i.index.toNat V wp c = ((switchAction i wp c).block, false) := by
  cases i with
  | motoroffR | motoroffW | motoronR | motoronW | drv0selR | drv0selW | drv1selR | drv1selW
  | loadoffR | loadoffW | writeoffR | writeoffW | writeonR | writeonW => rfl
  | loadonR =>
    obtain rfl : V = none := by simpa [Instr.value] using hkind.symm
    simp only [switchAction, Switched.block, Controller.senseWriteProtect_eq, sensedLatch_eq_or]
    by_cases hfires : c.motor = true ∧ c.wm = false
    · simp [refStepOne, refSwitch, Instr.index, hfires, Controller.setLoadMode, WpPins.level]
    · simp [refStepOne, refSwitch, Instr.index, hfires, Controller.setLoadMode]
  | loadonW =>
    obtain ⟨v, rfl⟩ : ∃ v, V = some v := by simpa [Instr.value, Option.isSome_iff_exists] using hkind
    rfl
  | _ => simp [Instr.index] at h

theorem refAccess_of_fault {A : Int} {V : Option Nat} {wp : WpPins} {c c' : Controller}
    (h : refStepOne (switchIndex A).toNat V wp c = (c', true)) : refAccess A V wp c = (c', .fault .invalidMotorState) := by
  simp [refAccess, ← switchIndex_toNat, h]

/-- Steps 2 and 3 of the listing are those of a completed access. -/
theorem refAccess_of_done {A : Int} {V : Option Nat} {wp : WpPins} {c c' : Controller} (s : State)
    (h : refStepOne (switchIndex A).toNat V wp c = (c', false)) :
    ∃ b, (refAccess A V wp c).2 = .byte b ∧
      s.complete (switchIndex A) V c' = { s with ctl := (refAccess A V wp c).1, result := some (.byte b) } := by
  cases V with
  | some v =>
    refine ⟨Config.floatBus, by simp [refAccess, ← switchIndex_toNat, h], ?_⟩
    rw [State.complete_write, latchRule_write]
    simp only [refAccess, ← switchIndex_toNat, h, Bool.and_eq_true, and_assoc, zext8]
    by_cases hload : c'.motor = true ∧ c'.wm = true ∧ c'.lm = true <;> simp [hload]
  | none =>
    by_cases heven : (switchIndex A).toNat % 2 = 0
    · cases hmotor : c'.motor with
      | true =>
        rw [State.complete_evenRead_motorOn s heven hmotor]
        simp [refAccess, ← switchIndex_toNat, h, heven, hmotor]
      | false =>
        rw [State.complete_evenRead_motorOff s heven hmotor]
        simp [refAccess, ← switchIndex_toNat, h, heven, hmotor, spinSentinel, Controller.toggleSpin]
    · rw [State.complete_oddRead_or_write s c' (.inr (by omega))]
      simp [refAccess, ← switchIndex_toNat, h, heven]

theorem decodeAccess_isNone (A : Int) (V : Option Nat) : (decodeAccess A V).value.isNone = V.isNone := by
  rw [decodeAccess_value, Option.isNone_map]

/-- Step 1 of the listing and the switch action agree on the block and on the fault. -/
theorem refStepOne_cases (A : Int) (V : Option Nat) (wp : WpPins) (c : Controller) :
    (∃ c', refStepOne (switchIndex A).toNat V wp c = (c', true) ∧
      switchAction (decodeAccess A V) wp c = .raised .invalidMotorState c') ∨
    (∃ c', refStepOne (switchIndex A).toNat V wp c = (c', false) ∧ switchAction (decodeAccess A V) wp c = .done c') := by
  rw [← decodeAccess_index A V]
  obtain hphase | hother := Nat.lt_or_ge (decodeAccess A V).index.toNat 8
  · rw [refStepOne_phase hphase, switchAction_phase hphase]
    obtain hover | hle := Nat.lt_or_ge 2 (popcount (writtenPhases (decodeAccess A V).index c.ph))
    · have hfault := (resolve_fault_iff c.ph _).mpr hover
      rw [Controller.track_of_still fun x => by rw [hfault, headAfter], decide_eq_true hfault, phaseSwitch_of_over hover]
      exact .inl ⟨_, rfl, rfl⟩
    · have hok : resolve c.ph (writtenPhases (decodeAccess A V).index c.ph) ≠ .fault :=
        (resolve_fault_iff c.ph _).not.mpr hle.not_gt
      rw [decide_eq_false hok, phaseSwitch_of_le hle]
      exact .inr ⟨_, rfl, rfl⟩
  · obtain ⟨c', hdone⟩ := switchAction_other_done hother wp c
    rw [refStepOne_other hother (decodeAccess_isNone A V), hdone]
    exact .inr ⟨c', rfl, rfl⟩

/-- The listing covers the block and the result; the pins stay and the trace is left by FAULT_POLICY. -/
theorem exec_decodeAccess_eq_listing (A : Int) (V : Option Nat) (s : State) :
    exec (decodeAccess A V) s = .next { s with
      ctl := (refAccess A V s.wp s.ctl).1
      result := some (refAccess A V s.wp s.ctl).2
      bus := if (refAccess A V s.wp s.ctl).2 = .fault .invalidMotorState then
          (if Config.faultPolicy = .halt then [] else s.bus)
        else s.bus } := by
  rw [exec_eq_access, decodeAccess_index, decodeAccess_value, access_value_mod]
  obtain ⟨c', hone, haction⟩ | ⟨c', hone, haction⟩ := refStepOne_cases A V s.wp s.ctl
  · rw [access_raised haction, refAccess_of_fault hone, if_pos rfl, ← busAfterFault_eq]
    rfl
  · obtain ⟨b, hbyte, hcomplete⟩ := refAccess_of_done s hone
    rw [access_done haction, hcomplete, hbyte]
    rfl

/-- Settles O12: the step runs the oldest access at its own pin levels, and that access is the listing. -/
theorem stepMatchesReferenceListing : Obligations.StepMatchesReferenceListing := by
  intro s c rest hbus
  rw [step_of_bus_cons hbus, exec_decodeAccess_eq_listing]

end Sys2Proof.Machine
